-- ==== Sys2Proof/Word.lean ====
section
/-! DEFINITION. The words of the part: bytes, the 16-bit fields of notices, timebase values. -/

namespace Sys2Proof

/-- A byte of a frame, a tag, a cycle number (8 bits, wrapping). -/
abbrev Byte := BitVec 8

/-- A 16-bit field: the detail of a notice (R179). -/
abbrev Half := BitVec 16

/-- A timebase value: a 32-bit count of tu that wraps (R1). -/
abbrev Time := BitVec 32

end Sys2Proof
end

