-- ==== Sys2Proof/Config.lean ====
section
/-! DEFINITION. What the spec leaves open: free values, constants without a body. No proof can see
what they are, so a claim about the model holds for every value of them. -/

namespace Sys2Proof

/-- FREE VALUE (log 2). The order in which the part takes its own timer expiries that fall at one
instant. The spec gives the outcome of either order and chooses none (R96, R145 and others). The
`n`-th instant at which two or more expiries are due takes them in the order that
`Config.tieOrder n` codes (`Machine.arrange`). -/
opaque Config.tieOrder : Nat → Nat

/-- FREE VALUE (log 11). Whether the tracker raises CAM_MISSING at a window close (R19) before it
hands the results of the same edge over (R13), or after. The spec orders the hand-overs and says
nothing of the window close among them. -/
opaque Config.camMissingFirst : Bool

end Sys2Proof
end

