-- ==== Sys2Proof/Syntax.lean ====
section
/-! DEFINITION. The commands of the part, one constructor for each row of spec/opcode_table.json, and
the small types their operands need. -/

namespace Sys2Proof

/-- Cylinders are numbered 1 to 8 by their engine number (00_scope, "Cylinders, positions and banks"). -/
inductive Cylinder where
  | c1 | c2 | c3 | c4 | c5 | c6 | c7 | c8
deriving DecidableEq, Repr

/-- The five pulse kinds, in kind order (R2). -/
inductive PulseKind where
  | pilot | pre | main | after | post
deriving DecidableEq, Repr

/-- The two drive banks, and the two plan banks: A and B. Which is meant is said where it is used. -/
inductive Bank where
  | a | b
deriving DecidableEq, Repr

/-- What tells a pulse request from every other one in the queue (R85): cylinder, kind and cycle number. -/
structure RequestId where
  cylinder : Cylinder
  kind : PulseKind
  cycle : Byte
deriving DecidableEq, Repr

/-- The commands that come in frames, in the order of the catalogue (R173). -/
inductive Command where
  | nop | ident
  | setWheel | setCam | setRing | setLimits | setFueling | setLimp
  | writePlan | copyActive | swap | cancelSwap | readPlan
  | setCylMode | clearMask | flushCyl
  | arm | disarm | fuelCut | releaseBank
  | readAngle | readStatus | readShadow | readMarks | readCounters
  | readFault | clearFault | fetchNotices | setNoticeMask
  | enterStandby | setWake | softReset
deriving DecidableEq, Repr

/-- The commands and events of the part. The operands of a frame command are its tag and its payload,
raw: the payload's length and codes are judged by the command itself (R171, R201; log 3). -/
inductive Instr where
  -- the link
  | csNFall
  /-- The bits clocked on MOSI since the last event of the transaction, oldest first (R162; log 4). -/
  | csNRelease (mosi : List Bool)
  | turnaroundExpiry
  -- frame commands
  | nop (tag : Byte) (payload : List Byte)
  | ident (tag : Byte) (payload : List Byte)
  | setWheel (tag : Byte) (payload : List Byte)
  | setCam (tag : Byte) (payload : List Byte)
  | setRing (tag : Byte) (payload : List Byte)
  | setLimits (tag : Byte) (payload : List Byte)
  | setFueling (tag : Byte) (payload : List Byte)
  | setLimp (tag : Byte) (payload : List Byte)
  | writePlan (tag : Byte) (payload : List Byte)
  | copyActive (tag : Byte) (payload : List Byte)
  | swap (tag : Byte) (payload : List Byte)
  | cancelSwap (tag : Byte) (payload : List Byte)
  | readPlan (tag : Byte) (payload : List Byte)
  | setCylMode (tag : Byte) (payload : List Byte)
  | clearMask (tag : Byte) (payload : List Byte)
  | flushCyl (tag : Byte) (payload : List Byte)
  | arm (tag : Byte) (payload : List Byte)
  | disarm (tag : Byte) (payload : List Byte)
  | fuelCut (tag : Byte) (payload : List Byte)
  | releaseBank (tag : Byte) (payload : List Byte)
  | readAngle (tag : Byte) (payload : List Byte)
  | readStatus (tag : Byte) (payload : List Byte)
  | readShadow (tag : Byte) (payload : List Byte)
  | readMarks (tag : Byte) (payload : List Byte)
  | readCounters (tag : Byte) (payload : List Byte)
  | readFault (tag : Byte) (payload : List Byte)
  | clearFault (tag : Byte) (payload : List Byte)
  | fetchNotices (tag : Byte) (payload : List Byte)
  | setNoticeMask (tag : Byte) (payload : List Byte)
  | enterStandby (tag : Byte) (payload : List Byte)
  | setWake (tag : Byte) (payload : List Byte)
  | softReset (tag : Byte) (payload : List Byte)
  -- resets, modes, clock
  | resetNLow
  | resetNRise
  | warmupEnd
  /-- WAKE changes to `high`. `true` is the rise of the row; `false` only updates the level (log 5). -/
  | wakeLevelRise (high : Bool)
  /-- A REFCLK cycle ends whose length, as the monitor measures it, is `picoseconds` (R193; log 22). -/
  | refclkCycle (picoseconds : Nat)
  | refclkMissing
  -- sensors
  | crankActiveEdge
  | crankTrailingEdge
  | crankStall
  | camEdge
  | camStall
  -- requests, pulses and drive banks
  | startTimerExpiry (request : RequestId)
  | latenessExpiry (request : RequestId)
  | peakRise (bank : Bank)
  | peakTimeoutAbort (bank : Bank)
  | durationEnd (bank : Bank)
  /-- SHORT_x changes to `asserted`. `true` is the assertion of the row; `false`, the deassertion,
  only updates the level (R123, R125; log 5). -/
  | shortAssertion (bank : Bank) (asserted : Bool)
  | rechargeComplete (bank : Bank)
  | separationElapse (cylinder : Cylinder)
  | lastEndInvalid (cylinder : Cylinder)
deriving DecidableEq, Repr

/-- The frame command that a command of the table is, with its tag and payload; none for an event. -/
def Instr.frame? : Instr → Option (Command × Byte × List Byte)
  | .nop t p => some (.nop, t, p)
  | .ident t p => some (.ident, t, p)
  | .setWheel t p => some (.setWheel, t, p)
  | .setCam t p => some (.setCam, t, p)
  | .setRing t p => some (.setRing, t, p)
  | .setLimits t p => some (.setLimits, t, p)
  | .setFueling t p => some (.setFueling, t, p)
  | .setLimp t p => some (.setLimp, t, p)
  | .writePlan t p => some (.writePlan, t, p)
  | .copyActive t p => some (.copyActive, t, p)
  | .swap t p => some (.swap, t, p)
  | .cancelSwap t p => some (.cancelSwap, t, p)
  | .readPlan t p => some (.readPlan, t, p)
  | .setCylMode t p => some (.setCylMode, t, p)
  | .clearMask t p => some (.clearMask, t, p)
  | .flushCyl t p => some (.flushCyl, t, p)
  | .arm t p => some (.arm, t, p)
  | .disarm t p => some (.disarm, t, p)
  | .fuelCut t p => some (.fuelCut, t, p)
  | .releaseBank t p => some (.releaseBank, t, p)
  | .readAngle t p => some (.readAngle, t, p)
  | .readStatus t p => some (.readStatus, t, p)
  | .readShadow t p => some (.readShadow, t, p)
  | .readMarks t p => some (.readMarks, t, p)
  | .readCounters t p => some (.readCounters, t, p)
  | .readFault t p => some (.readFault, t, p)
  | .clearFault t p => some (.clearFault, t, p)
  | .fetchNotices t p => some (.fetchNotices, t, p)
  | .setNoticeMask t p => some (.setNoticeMask, t, p)
  | .enterStandby t p => some (.enterStandby, t, p)
  | .setWake t p => some (.setWake, t, p)
  | .softReset t p => some (.softReset, t, p)
  | .csNFall => none
  | .csNRelease _ => none
  | .turnaroundExpiry => none
  | .resetNLow => none
  | .resetNRise => none
  | .warmupEnd => none
  | .wakeLevelRise _ => none
  | .refclkCycle _ => none
  | .refclkMissing => none
  | .crankActiveEdge => none
  | .crankTrailingEdge => none
  | .crankStall => none
  | .camEdge => none
  | .camStall => none
  | .startTimerExpiry _ => none
  | .latenessExpiry _ => none
  | .peakRise _ => none
  | .peakTimeoutAbort _ => none
  | .durationEnd _ => none
  | .shortAssertion _ _ => none
  | .rechargeComplete _ => none
  | .separationElapse _ => none
  | .lastEndInvalid _ => none

/-- The command of the table that a frame command with a tag and a payload is. -/
def Command.instr (c : Command) (t : Byte) (p : List Byte) : Instr :=
  match c with
  | .nop => .nop t p
  | .ident => .ident t p
  | .setWheel => .setWheel t p
  | .setCam => .setCam t p
  | .setRing => .setRing t p
  | .setLimits => .setLimits t p
  | .setFueling => .setFueling t p
  | .setLimp => .setLimp t p
  | .writePlan => .writePlan t p
  | .copyActive => .copyActive t p
  | .swap => .swap t p
  | .cancelSwap => .cancelSwap t p
  | .readPlan => .readPlan t p
  | .setCylMode => .setCylMode t p
  | .clearMask => .clearMask t p
  | .flushCyl => .flushCyl t p
  | .arm => .arm t p
  | .disarm => .disarm t p
  | .fuelCut => .fuelCut t p
  | .releaseBank => .releaseBank t p
  | .readAngle => .readAngle t p
  | .readStatus => .readStatus t p
  | .readShadow => .readShadow t p
  | .readMarks => .readMarks t p
  | .readCounters => .readCounters t p
  | .readFault => .readFault t p
  | .clearFault => .clearFault t p
  | .fetchNotices => .fetchNotices t p
  | .setNoticeMask => .setNoticeMask t p
  | .enterStandby => .enterStandby t p
  | .setWake => .setWake t p
  | .softReset => .softReset t p

end Sys2Proof
end

