-- ==== Sys2Proof/WellFormed.lean ====
section
/-! DEFINITION. Which commands can reach the part: a frame carries at most 60 payload bytes, and a
REFCLK cycle has a positive length. -/

namespace Sys2Proof

/-- The payload length a frame can carry (R166, R202: L is 0 to 60). -/
def Instr.payloadFits (i : Instr) : Bool :=
  match i.frame? with
  | some (_, _, p) => p.length ≤ 60
  | none => true

/-- A REFCLK cycle lasts some time. -/
def Instr.cycleHasLength : Instr → Bool
  | .refclkCycle ps => 0 < ps
  | _ => true

/-- A command the sender can send. -/
def Instr.wellFormed (i : Instr) : Bool :=
  i.payloadFits && i.cycleHasLength

end Sys2Proof
end

