-- ==== Sys2Proof/Decode.lean ====
section
/-! DEFINITION. How commands are spelled. The opcode table gives no row any bits, so no word spells a
command. What the spec does give is the frame: the kind codes (R173), the CRC (R167), the header (R202)
and the order of bits on the wire (R162). Reading a frame and writing one stand here side by side. -/

namespace Sys2Proof

/-- The command a word spells by the table's bits. No row of spec/opcode_table.json has bits, so no word
spells one. -/
def decodeTableWord (_nbits _w : Nat) : Option Instr := none

/-- The kind byte of a frame command (R173). -/
def Command.code : Command → Byte
  | .nop => 0x00
  | .ident => 0x01
  | .setWheel => 0x10
  | .setCam => 0x11
  | .setRing => 0x12
  | .setLimits => 0x13
  | .setFueling => 0x14
  | .setLimp => 0x15
  | .writePlan => 0x20
  | .copyActive => 0x21
  | .swap => 0x22
  | .cancelSwap => 0x23
  | .readPlan => 0x24
  | .setCylMode => 0x30
  | .clearMask => 0x31
  | .flushCyl => 0x32
  | .arm => 0x40
  | .disarm => 0x41
  | .fuelCut => 0x42
  | .releaseBank => 0x48
  | .readAngle => 0x50
  | .readStatus => 0x51
  | .readShadow => 0x52
  | .readMarks => 0x53
  | .readCounters => 0x54
  | .readFault => 0x58
  | .clearFault => 0x59
  | .fetchNotices => 0x60
  | .setNoticeMask => 0x61
  | .enterStandby => 0x70
  | .setWake => 0x71
  | .softReset => 0x7F

/-- The commands of the catalogue, in its order (R173). -/
def Command.catalogue : List Command :=
  [.nop, .ident, .setWheel, .setCam, .setRing, .setLimits, .setFueling, .setLimp,
   .writePlan, .copyActive, .swap, .cancelSwap, .readPlan, .setCylMode, .clearMask, .flushCyl,
   .arm, .disarm, .fuelCut, .releaseBank, .readAngle, .readStatus, .readShadow, .readMarks,
   .readCounters, .readFault, .clearFault, .fetchNotices, .setNoticeMask, .enterStandby, .setWake,
   .softReset]

/-- The command whose kind byte this is; none for every other kind value (R173). -/
def Command.ofCode (k : Byte) : Option Command :=
  Command.catalogue.find? (fun c => c.code == k)

/-! ### The CRC (R167) -/

/-- One step of the CRC: shift toward the most significant end, then combine with 0x2F when the bit
shifted out was 1. -/
def crcStep (r : Byte) : Byte :=
  if r.msb then (r <<< 1) ^^^ 0x2F#8 else r <<< 1

/-- A covered byte enters the register, and eight steps follow. -/
def crcByte (r b : Byte) : Byte :=
  crcStep (crcStep (crcStep (crcStep (crcStep (crcStep (crcStep (crcStep (r ^^^ b))))))))

/-- The CRC over the covered bytes, in frame order: the register starts at 0xFF. -/
def crc (bytes : List Byte) : Byte := bytes.foldl crcByte 0xFF#8

/-! ### Bits on the wire (R162) -/

/-- The bits of a byte, most significant first. -/
def bitsOfByte (b : Byte) : List Bool :=
  [b.getLsbD 7, b.getLsbD 6, b.getLsbD 5, b.getLsbD 4, b.getLsbD 3, b.getLsbD 2, b.getLsbD 1, b.getLsbD 0]

/-- The byte whose bits these are, most significant first. -/
def byteOfBits (b7 b6 b5 b4 b3 b2 b1 b0 : Bool) : Byte :=
  BitVec.ofNat 8 (b7.toNat * 128 + b6.toNat * 64 + b5.toNat * 32 + b4.toNat * 16 +
    b3.toNat * 8 + b2.toNat * 4 + b1.toNat * 2 + b0.toNat)

/-- The bits of bytes in frame order. -/
def bitsOfBytes : List Byte → List Bool
  | [] => []
  | b :: bs => bitsOfByte b ++ bitsOfBytes bs

/-- The whole bytes of a row of sampled bits. Bits after the last whole byte are ignored. -/
def bytesOfBits : List Bool → List Byte
  | b7 :: b6 :: b5 :: b4 :: b3 :: b2 :: b1 :: b0 :: rest => byteOfBits b7 b6 b5 b4 b3 b2 b1 b0 :: bytesOfBits rest
  | _ => []

/-! ### Command frames (R166, R202) -/

/-- The bytes of a frame that carries a command: kind, tag, length, payload, CRC. -/
def frameBytes (c : Command) (tag : Byte) (payload : List Byte) : List Byte :=
  let covered := c.code :: tag :: BitVec.ofNat 8 payload.length :: payload
  covered ++ [crc covered]

/-- The bits the host clocks for a command; none for an event that is no frame command. -/
def Instr.wireBits (i : Instr) : Option (List Bool) :=
  i.frame?.map (fun f => bitsOfBytes (frameBytes f.1 f.2.1 f.2.2))

/-- What the checks of R166 make of the bytes of a transaction, before a command is carried out. -/
inductive FrameVerdict where
  /-- Steps 1 to 3 fail: too few bytes, or L above 60. -/
  | badLength
  /-- Step 4 fails. -/
  | badCrc
  /-- Step 5 fails. The frame was good but its kind is not in the catalogue. -/
  | unknownKind (kind tag : Byte)
  | good (command : Command) (tag : Byte) (payload : List Byte)
deriving DecidableEq, Repr

/-- The checks of R166 in their order, over the bytes kept and the count of bytes received. -/
def judgeFrame (bytes : List Byte) (count : Nat) : FrameVerdict :=
  match bytes with
  | kind :: tag :: len :: rest =>
    if count < 3 then .badLength
    else if 60 < len.toNat then .badLength
    else if count < 4 + len.toNat then .badLength
    else
      match rest.drop len.toNat with
      | c :: _ =>
        if crc (kind :: tag :: len :: rest.take len.toNat) == c then
          match Command.ofCode kind with
          | some cmd => .good cmd tag (rest.take len.toNat)
          | none => .unknownKind kind tag
        else .badCrc
      | [] => .badLength
  | _ => .badLength

end Sys2Proof
end

