-- ==== Sys2Proof/Machine/State.lean ====
section
/-! DEFINITION. The state of the OPS-860, block by block, as plain data, and its value right after a pin
reset. Each field's docstring names the rule that gives it. -/

namespace Sys2Proof.Machine

/-! ### Codes and small types (R203) -/

/-- One thing for each of the eight cylinder numbers. -/
structure Eight (α : Type) where
  c1 : α
  c2 : α
  c3 : α
  c4 : α
  c5 : α
  c6 : α
  c7 : α
  c8 : α
deriving DecidableEq, Repr

/-- The entry of a cylinder. -/
def Eight.get {α : Type} (e : Eight α) : Cylinder → α
  | .c1 => e.c1
  | .c2 => e.c2
  | .c3 => e.c3
  | .c4 => e.c4
  | .c5 => e.c5
  | .c6 => e.c6
  | .c7 => e.c7
  | .c8 => e.c8

/-- `e` with the entry of one cylinder replaced. -/
def Eight.set {α : Type} (e : Eight α) (c : Cylinder) (x : α) : Eight α :=
  match c with
  | .c1 => { e with c1 := x }
  | .c2 => { e with c2 := x }
  | .c3 => { e with c3 := x }
  | .c4 => { e with c4 := x }
  | .c5 => { e with c5 := x }
  | .c6 => { e with c6 := x }
  | .c7 => { e with c7 := x }
  | .c8 => { e with c8 := x }

/-- The same for every cylinder. -/
def Eight.all {α : Type} (x : α) : Eight α := ⟨x, x, x, x, x, x, x, x⟩

/-- Every entry through `f`. -/
def Eight.map {α β : Type} (f : α → β) (e : Eight α) : Eight β :=
  ⟨f e.c1, f e.c2, f e.c3, f e.c4, f e.c5, f e.c6, f e.c7, f e.c8⟩

/-- A firing position, 0 to 7 (00_scope, "Cylinders, positions and banks"). -/
abbrev Position := Fin 8

inductive Edge where
  | rising | falling
deriving DecidableEq, Repr

inductive Wheel where
  | w36m1 | w36m2 | w60m1 | w60m2
deriving DecidableEq, Repr

inductive SensorType where
  | plain | directional
deriving DecidableEq, Repr

inductive SyncState where
  | stopped | seeking | crankSync | fullSync | phaseHeld | camOnly
deriving DecidableEq, Repr

inductive Revolution where
  | a | b
deriving DecidableEq, Repr

inductive CylMode where
  | fire | shadow | cut
deriving DecidableEq, Repr

inductive RequestState where
  | planned | armed | due | boost | hold
deriving DecidableEq, Repr

inductive DueCause where
  | expiry | edge | immediate
deriving DecidableEq, Repr

inductive FuelState where
  | disarmed | cut | syncWait | limp | aged | normal
deriving DecidableEq, Repr

/-- What changed before a derivation of the fueling state (R157). -/
inductive FuelCause where
  | arm | disarm | host | speed | age | clock | sync | settings
deriving DecidableEq, Repr

/-- The nine drop reasons (05, section 5.8). -/
inductive DropReason where
  | late | queueFull | syncLost | phaseFlip | reverse | fuelState | flushed | tooShort | aborted
deriving DecidableEq, Repr

/-- The nineteen notice kinds (R180). -/
inductive NoticeKind where
  | reset | syncGained | syncLost | phaseFlip | camMissing | crankLost | reverse | swapDone | fuelState
  | planExpired | pulseDropped | pulseTruncated | peakTimeout | cylMasked | bankShort | flushDone
  | storeParity | wake | clockLoss
deriving DecidableEq, Repr

inductive Mode where
  | run | standby | warmup
deriving DecidableEq, Repr

inductive ClockSource where
  | reference | fallback
deriving DecidableEq, Repr

/-- The four warm-up times (R191, R194). -/
inductive WarmupSel where
  | us128 | us512 | ms2 | ms8
deriving DecidableEq, Repr

/-- What began a warm-up after standby or in its place (R196, R197). -/
inductive WakeSource where
  | crankEdge | chipSelect | wakeLevel | bounce
deriving DecidableEq, Repr

/-- The status codes (R172). -/
inductive Status where
  | ok | accepted | fresh | badLength | badCrc | unknownKind | busyLink | notReady | badValue
  | engineTurning | ringInvalid | stagingLocked | swapPending | noSwap | flushPending | notLocked
  | conditionPresent | wrongState
deriving DecidableEq, Repr

/-! ### Frame Port (R163) -/

/-- A reply before it is framed. The notice count is taken when it is sent (R169). -/
structure Reply where
  status : Status
  tag : Byte
  payload : List Byte
deriving DecidableEq, Repr

/-- How a transaction was judged at the fall of CS_N (R164). -/
inductive Transaction where
  /-- Mode STANDBY: MISO not driven, the frame discarded. -/
  | unanswered
  /-- Mode WARMUP: NOT_READY, the frame discarded. -/
  | notReady
  /-- Mode RUN, turnaround running: BUSY_LINK, the frame discarded. -/
  | busy
  /-- Mode RUN, turnaround idle: the pending reply goes out, the frame is checked and carried out. -/
  | carried
deriving DecidableEq, Repr

structure FramePort where
  /-- Whole bytes of the transaction in progress, up to 64 kept (R163). -/
  rx : List Byte
  /-- Bytes received, saturating at 255 (R163). -/
  rxCount : Nat
  reply : Reply
  /-- `none`: idle; `some t`: running, expiry at `t` (R163, R165). -/
  turnaround : Option Time
  lastTag : Byte
  /-- The transaction in progress, from a fall of CS_N to its release (R164). -/
  transaction : Option Transaction
  /-- The frame driven on MISO in the transaction in progress; bytes after it are 0x00 (R162). `none`:
  MISO is not driven. -/
  miso : Option (List Byte)
deriving DecidableEq, Repr

/-! ### Angle Tracker (R3) -/

structure WheelSettings where
  wheel : Wheel
  activeEdge : Edge
  sensor : SensorType
  /-- Direction threshold in tu (R4). -/
  dirThreshold : Nat
  /-- Crank stall time in tu (R4). -/
  stallTime : Nat
  /-- Acceleration weight a, in quarters (R4). -/
  accel : Nat
deriving DecidableEq, Repr

structure CamSettings where
  /-- Nominal cam cycle angle (R5). -/
  gamma : Nat
  halfWidth : Nat
  /-- Cam stall time in tu (R5). -/
  stallTime : Nat
  polarity : Edge
deriving DecidableEq, Repr

/-- The last accepted crank edge: its time, and its cycle angle or absent (R3). -/
structure CrankEdge where
  time : Time
  angle : Option Nat
deriving DecidableEq, Repr

/-- Period history and predicted period (R3, R30, R32). -/
structure PeriodHistory where
  /-- P_(k−1) -/
  previous : Option Nat
  /-- P_k -/
  current : Option Nat
  /-- P̂ -/
  predicted : Option Nat
deriving DecidableEq, Repr

/-- An empty period history. -/
def PeriodHistory.empty : PeriodHistory := ⟨none, none, none⟩

structure CamHistory where
  lastEdge : Option Time
  /-- The cam period C; `none`: invalid (R3, R40). -/
  period : Option Nat
  missingRun : Nat
  conflictRun : Nat
  windowFlag : Bool
deriving DecidableEq, Repr

/-- A cleared cam history (R3, R15). -/
def CamHistory.cleared : CamHistory := ⟨none, none, 0, 0, false⟩

/-- The crank seek run during CAM_ONLY (R3, R23). -/
structure Seek where
  lastEdge : Option Time
  history : PeriodHistory
deriving DecidableEq, Repr

/-- An emptied background seek. -/
def Seek.empty : Seek := ⟨none, .empty⟩

structure Tracker where
  wheel : WheelSettings
  cam : CamSettings
  sync : SyncState
  toothIndex : Option Nat
  revolution : Option Revolution
  lastEdge : Option CrankEdge
  history : PeriodHistory
  speed : Nat
  camHistory : CamHistory
  seek : Seek
  cycle : Byte
  /-- `none`: stopped; `some t`: running since `t` (R21). -/
  crankTimer : Option Time
  /-- `none`: stopped; `some t`: running since `t` (R15, R24). -/
  camTimer : Option Time
  /-- The time of the accepted active edge whose pulse is being measured (R25). Implied by the spec;
  log 10. -/
  pulseStart : Option Time
deriving DecidableEq, Repr

/-! ### Cylinder Table (R44) -/

structure RingEntry where
  cylinder : Cylinder
  tdc : Nat
  bank : Bank
deriving DecidableEq, Repr

structure CylState where
  hostMode : CylMode
  masked : Bool
  failures : Nat
  flushPending : Bool
  /-- The last end; `none`: invalid (R56). -/
  lastEnd : Option Time
  cyclePlanned : Bool
deriving DecidableEq, Repr

structure CylinderTable where
  /-- The ring entries, position 0 first. Their number is the ring size Z. -/
  ring : List RingEntry
  planLead : Nat
  maskThreshold : Nat
  /-- One plan point per position (R47). -/
  planPoints : List Nat
  cyls : Eight CylState
deriving DecidableEq, Repr

/-! ### Schedule Store (R61) -/

structure PlanEntry where
  kind : PulseKind
  /-- Start angle relative to TDC, signed, in cs. -/
  start : Int
  /-- Duration in µs. -/
  duration : Nat
  /-- Log 20; no row alters a stored bit (log 26). -/
  parity : Bool
deriving DecidableEq, Repr

structure PlanBank where
  plans : Eight (List PlanEntry)
  tag : Byte
deriving DecidableEq, Repr

structure Store where
  planA : PlanBank
  planB : PlanBank
  active : Bank
  pendingSwap : Option Byte
  age : Nat
  limp : PlanEntry
deriving DecidableEq, Repr

/-! ### Pulse Queue (R83, R84) -/

structure Request where
  cylinder : Cylinder
  position : Position
  bank : Bank
  kind : PulseKind
  cycle : Byte
  startAngle : Nat
  /-- Remaining distance in cs from the reference angle to the start angle (R86). It may pass below 0 at
  the tooth that makes the request DUE (R95). -/
  sortKey : Int
  shadow : Bool
  /-- In tu. -/
  duration : Nat
  /-- In tu. -/
  lateness : Nat
  state : RequestState
  scheduledStart : Option Time
  dueTime : Option Time
  dueCause : Option DueCause
  /-- The expiry of the lateness timer, from the hand-over to the grant. A DUE request with one stands
  in its bank's waiting set (R108, R110). -/
  lateExpiry : Option Time
deriving DecidableEq, Repr

/-- A shadow capture (R98). -/
structure Capture where
  kind : PulseKind
  cycle : Byte
  position : Position
  startAngle : Nat
  scheduledStart : Option Time
  dueTime : Option Time
  dueCause : Option DueCause
  /-- In µs. -/
  duration : Nat
deriving DecidableEq, Repr

/-- The pulse limits, in tu (R87). -/
structure Limits where
  minPulse : Nat
  maxPulse : Nat
  minSeparation : Nat
  latenessMain : Nat
  latenessOther : Nat
  peakTimeout : Nat
  recharge : Nat
deriving DecidableEq, Repr

structure PulseQueue where
  /-- In queue order (R86). -/
  requests : List Request
  depthMark : Nat
  captures : Eight (Option Capture)
  limits : Limits
deriving DecidableEq, Repr

/-! ### Drive Arbiter (R108, R129) -/

/-- Boost charge (R109). `charging none`: the boost phase is under way; `charging (some t)`: recharging,
completion at `t`. -/
inductive Charge where
  | ready
  | charging (completion : Option Time)
deriving DecidableEq, Repr

/-- The seven switches of the tie-break tree (R115). `false`: the lower child; `true`: the upper. -/
structure Tree where
  root : Bool
  midLow : Bool
  midHigh : Bool
  low01 : Bool
  low23 : Bool
  low45 : Bool
  low67 : Bool
deriving DecidableEq, Repr

/-- Every switch at its lower child. -/
def Tree.lower : Tree := ⟨false, false, false, false, false, false, false⟩

/-- The pulse record (R129). Its phase is the request's state. -/
structure PulseRecord where
  grantTime : Time
  durationEnd : Time
  peakExpiry : Option Time
deriving DecidableEq, Repr

/-- A drive bank. Its waiting set and its occupant are read from the Pulse Queue, where each request has
its one record. -/
structure DriveBank where
  charge : Charge
  locked : Bool
  tree : Tree
  /-- In µs (R108, R119). -/
  waitMark : Nat
  boostOut : Bool
  holdOut : Bool
  pulse : Option PulseRecord
deriving DecidableEq, Repr

/-! ### Fueling Supervisor (R148) -/

structure Fueling where
  armed : Bool
  hostCut : Bool
  overspeed : Bool
  clockCut : Bool
  expired : Bool
  holdLimit : Nat
  cutLimit : Nat
  overspeedLimit : Nat
  hysteresis : Nat
  limpOn : Bool
  lastSpeed : Nat
  lastSync : SyncState
  lastAge : Nat
  state : FuelState
deriving DecidableEq, Repr

/-! ### Notice Unit (R178, R179) -/

inductive Subject where
  | absent
  | cylinder (c : Cylinder)
  | bank (x : Bank)
deriving DecidableEq, Repr

structure Notice where
  kind : NoticeKind
  subject : Subject
  cycle : Byte
  detail : Half
  timestamp : Time
deriving DecidableEq, Repr

/-- The first-fault detail (R188). -/
structure FirstFault where
  kind : NoticeKind
  subject : Subject
  bank : Option Bank
  detail : Half
  cycle : Byte
  angle : Option Nat
  timestamp : Time
deriving DecidableEq, Repr

structure NoticeUnit where
  /-- Oldest first. -/
  queue : List Notice
  /-- Bit k is the entry of kind code k: 1 REPORT, 0 COUNT_ONLY. -/
  mask : BitVec 19
  /-- By kind code. -/
  kindCounts : Vector Nat 19
  /-- By drop reason code. -/
  dropCounts : Vector Nat 9
  glitch : Nat
  gapError : Nat
  camNoise : Nat
  camConflict : Nat
  predictionMiss : Nat
  clamp : Nat
  grants : BitVec 32
  overflow : Nat
  /-- Bit p is the fault kind at set position p (R180). -/
  summary : BitVec 8
  first : Option FirstFault
  /-- ALERT_N asserted, driven low (R182). -/
  alert : Bool
deriving DecidableEq, Repr

/-! ### Timebase and Mode Control (R191) -/

/-- The wake enables (R191, R203). -/
structure WakeEnables where
  crankEdge : Bool
  chipSelect : Bool
  wakeLevel : Bool
deriving DecidableEq, Repr

structure Control where
  mode : Mode
  warmupSel : WarmupSel
  wakeEnables : WakeEnables
  clock : ClockSource
  refCount : Nat
  timebase : Time
  /-- What is left of the warm-up in progress, in tu of the fallback oscillator (R198; log 6). -/
  warmupLeft : Nat
  /-- The source recorded for the warm-up in progress; `none` after a pin reset (R196, R197). -/
  wakeSource : Option WakeSource
deriving DecidableEq, Repr

/-- The levels of the input pins that a rule samples (R125, R126, R196, R199). -/
structure Pins where
  shortA : Bool
  shortB : Bool
  wake : Bool
  /-- RESET_N is low: the part is held in reset. -/
  resetLow : Bool
deriving DecidableEq, Repr

/-! ### The machine -/

structure State where
  link : FramePort
  tracker : Tracker
  table : CylinderTable
  store : Store
  queue : PulseQueue
  driveA : DriveBank
  driveB : DriveBank
  /-- SEL1 to SEL8 (R130). -/
  sel : Eight Bool
  fueling : Fueling
  notices : NoticeUnit
  control : Control
  pins : Pins
  /-- The MODEL's own: how many times the free order of expiries has been used (log 2). -/
  freeIndex : Nat
  /-- The commands that wait, first in, first out. -/
  pending : List Instr
deriving DecidableEq, Repr

/-- No command of this part stops it: it has no trap, and a command it does not accept is answered by a
status code (R172). So there is no fault. -/
inductive Fault where
deriving DecidableEq, Repr

/-- Why a command has no meaning. No meaning of this model answers with one. -/
inductive Refusal where
  /-- Raised by an arm of `exec` whose command has no meaning yet (safe: nothing is claimed of it). No
  arm raises it. -/
  | notModelled (mnemonic : String)
deriving DecidableEq, Repr

/-! ### The state right after a pin reset -/

/-- The table's value of a cylinder after a pin reset (R44). -/
def CylState.reset : CylState :=
  { hostMode := .fire, masked := false, failures := 0, flushPending := false, lastEnd := none, cyclePlanned := false }

/-- A drive bank after a pin reset (R108). -/
def DriveBank.reset : DriveBank :=
  { charge := .ready, locked := false, tree := .lower, waitMark := 0, boostOut := false, holdOut := false,
    pulse := none }

/-- The tracker after a pin reset (R3). -/
def Tracker.reset : Tracker :=
  { wheel := { wheel := .w60m2, activeEdge := .rising, sensor := .plain, dirThreshold := 360,
               stallTime := 800000, accel := 2 }
    cam := { gamma := 0, halfWidth := 240, stallTime := 8000000, polarity := .rising }
    sync := .stopped
    toothIndex := none
    revolution := none
    lastEdge := none
    history := .empty
    speed := 0
    camHistory := .cleared
    seek := .empty
    cycle := 0
    crankTimer := none
    camTimer := none
    pulseStart := none }

/-- The machine right after a pin reset: RESET_N has just risen, the RESET notice is queued, and the
warm-up of 2 ms begins (R190, R198, R199; log 8). -/
def State.reset : State :=
  { link := { rx := [], rxCount := 0, reply := { status := .fresh, tag := 0, payload := [] },
              turnaround := none, lastTag := 0, transaction := none, miso := none }
    tracker := .reset
    table := { ring := [], planLead := 1920, maskThreshold := 3, planPoints := [], cyls := .all .reset }
    store := { planA := { plans := .all [], tag := 0 }
               planB := { plans := .all [], tag := 0 }
               active := .a
               pendingSwap := none
               age := 0
               limp := { kind := .main, start := -32, duration := 0, parity := false } }
    queue := { requests := [], depthMark := 0, captures := .all none
               limits := { minPulse := 320, maxPulse := 16000, minSeparation := 600, latenessMain := 480,
                           latenessOther := 240, peakTimeout := 600, recharge := 1600 } }
    driveA := .reset
    driveB := .reset
    sel := .all false
    fueling := { armed := false, hostCut := false, overspeed := false, clockCut := false, expired := false,
                 holdLimit := 4, cutLimit := 16, overspeedLimit := 2800, hysteresis := 200, limpOn := false,
                 lastSpeed := 0, lastSync := .stopped, lastAge := 0, state := .disarmed }
    notices := { queue := [{ kind := .reset, subject := .absent, cycle := 0, detail := 0, timestamp := 0 }]
                 mask := 0x7F3FF#19
                 kindCounts := (Vector.replicate 19 0).set 0 1
                 dropCounts := Vector.replicate 9 0
                 glitch := 0, gapError := 0, camNoise := 0, camConflict := 0, predictionMiss := 0
                 clamp := 0, grants := 0, overflow := 0, summary := 0, first := none, alert := true }
    control := { mode := .warmup, warmupSel := .ms2
                 wakeEnables := { crankEdge := true, chipSelect := true, wakeLevel := true }
                 clock := .reference, refCount := 0, timebase := 0, warmupLeft := 8000, wakeSource := none }
    pins := { shortA := false, shortB := false, wake := false, resetLow := false }
    freeIndex := 0
    pending := [] }

end Sys2Proof.Machine
end

