-- ==== Sys2Proof/Machine/Operands.lean ====
section
/-! DEFINITION. Operands and numbers: reading payload fields and writing reply fields (R200, R201), the
codes of R203, timebase values (R1), cycle angles (R29), wheel geometry (R28), entry parity (R77). -/

namespace Sys2Proof.Machine

/-! ### Timebase values (R1) -/

/-- The modular difference from `t` to `now`, in tu. -/
def elapsed (t now : Time) : Nat := (now - t).toNat

/-- `now` is at or later than `t`: the modular difference is below 2^31 (R1). -/
def reached (t now : Time) : Bool := elapsed t now < 2 ^ 31

/-- The timebase value `n` tu after `t`. -/
def later (t : Time) (n : Nat) : Time := t + BitVec.ofNat 32 n

/-! ### Fields of payloads (R201) -/

/-- The byte at an offset, as a number. -/
def u8 (p : List Byte) (i : Nat) : Nat := (p.getD i 0).toNat

/-- The 16-bit field at an offset, little-endian (R200). -/
def u16 (p : List Byte) (i : Nat) : Nat := u8 p i + 256 * u8 p (i + 1)

/-- The signed 16-bit field at an offset, two's complement (R200). -/
def s16 (p : List Byte) (i : Nat) : Int :=
  if u16 p i < 32768 then (u16 p i : Int) else (u16 p i : Int) - 65536

/-- A one-byte field of a reply. -/
def byte (n : Nat) : Byte := BitVec.ofNat 8 n

/-- A 16-bit field of a reply, little-endian (R200). -/
def le16 (n : Nat) : List Byte := [byte n, byte (n / 256)]

/-- A 32-bit field of a reply, little-endian (R200). -/
def le32 (n : Nat) : List Byte := [byte n, byte (n / 256), byte (n / 65536), byte (n / 16777216)]

/-- A signed 16-bit field of a reply, two's complement (R200). -/
def le16s (n : Int) : List Byte := le16 (n % 65536).toNat

/-- A timebase field of a reply. -/
def leTime (t : Time) : List Byte := le32 t.toNat

/-- A flag bit as a number. -/
def bit (b : Bool) : Nat := if b then 1 else 0

/-- Microseconds of a count of tu, truncated (00_scope, "Time"). -/
def usOf (tu : Nat) : Nat := tu / 4

/-! ### Codes (R203) -/

/-- The number of a cylinder, 1 to 8. -/
def cylNumber : Cylinder → Nat
  | .c1 => 1
  | .c2 => 2
  | .c3 => 3
  | .c4 => 4
  | .c5 => 5
  | .c6 => 6
  | .c7 => 7
  | .c8 => 8

/-- The cylinder with a number; none outside 1 to 8. -/
def cylOfNumber : Nat → Option Cylinder
  | 1 => some .c1
  | 2 => some .c2
  | 3 => some .c3
  | 4 => some .c4
  | 5 => some .c5
  | 6 => some .c6
  | 7 => some .c7
  | 8 => some .c8
  | _ => none

/-- The eight cylinders in rising number. -/
def allCylinders : List Cylinder := [.c1, .c2, .c3, .c4, .c5, .c6, .c7, .c8]

def kindCode : PulseKind → Nat
  | .pilot => 0
  | .pre => 1
  | .main => 2
  | .after => 3
  | .post => 4

def kindOfCode : Nat → Option PulseKind
  | 0 => some .pilot
  | 1 => some .pre
  | 2 => some .main
  | 3 => some .after
  | 4 => some .post
  | _ => none

/-- The priority class of a kind, 0 the highest (R2). -/
def kindClass : PulseKind → Nat
  | .pilot => 2
  | .pre => 1
  | .main => 0
  | .after => 3
  | .post => 4

/-- The kinds in class order: MAIN first and POST last (R2). -/
def classOrder : List PulseKind := [.main, .pre, .pilot, .after, .post]

def bankCode : Bank → Nat
  | .a => 0
  | .b => 1

def bankOfCode : Nat → Option Bank
  | 0 => some .a
  | 1 => some .b
  | _ => none

/-- The other bank. -/
def otherBank : Bank → Bank
  | .a => .b
  | .b => .a

def syncCode : SyncState → Nat
  | .stopped => 0
  | .seeking => 1
  | .crankSync => 2
  | .fullSync => 3
  | .phaseHeld => 4
  | .camOnly => 5

def fuelCode : FuelState → Nat
  | .disarmed => 0
  | .cut => 1
  | .syncWait => 2
  | .limp => 3
  | .aged => 4
  | .normal => 5

def modeCode : CylMode → Nat
  | .fire => 0
  | .shadow => 1
  | .cut => 2

def modeOfCode : Nat → Option CylMode
  | 0 => some .fire
  | 1 => some .shadow
  | 2 => some .cut
  | _ => none

def wheelOfCode : Nat → Option Wheel
  | 0 => some .w36m1
  | 1 => some .w36m2
  | 2 => some .w60m1
  | 3 => some .w60m2
  | _ => none

def edgeOfCode : Nat → Option Edge
  | 0 => some .rising
  | 1 => some .falling
  | _ => none

def sensorOfCode : Nat → Option SensorType
  | 0 => some .plain
  | 1 => some .directional
  | _ => none

def reasonCode : DropReason → Fin 9
  | .late => 0
  | .queueFull => 1
  | .syncLost => 2
  | .phaseFlip => 3
  | .reverse => 4
  | .fuelState => 5
  | .flushed => 6
  | .tooShort => 7
  | .aborted => 8

def fuelCauseCode : FuelCause → Nat
  | .arm => 0
  | .disarm => 1
  | .host => 2
  | .speed => 3
  | .age => 4
  | .clock => 5
  | .sync => 6
  | .settings => 7

def dueCauseCode : DueCause → Nat
  | .expiry => 0
  | .edge => 1
  | .immediate => 2

def revolutionCode : Revolution → Nat
  | .a => 0
  | .b => 1

/-- The code of a notice kind (R180). -/
def noticeCode : NoticeKind → Fin 19
  | .reset => 0
  | .syncGained => 1
  | .syncLost => 2
  | .phaseFlip => 3
  | .camMissing => 4
  | .crankLost => 5
  | .reverse => 6
  | .swapDone => 7
  | .fuelState => 8
  | .planExpired => 9
  | .pulseDropped => 10
  | .pulseTruncated => 11
  | .peakTimeout => 12
  | .cylMasked => 13
  | .bankShort => 14
  | .flushDone => 15
  | .storeParity => 16
  | .wake => 17
  | .clockLoss => 18

/-- The status byte (R172). -/
def statusCode : Status → Byte
  | .ok => 0x00
  | .accepted => 0x01
  | .fresh => 0x02
  | .badLength => 0x10
  | .badCrc => 0x11
  | .unknownKind => 0x12
  | .busyLink => 0x13
  | .notReady => 0x14
  | .badValue => 0x20
  | .engineTurning => 0x21
  | .ringInvalid => 0x22
  | .stagingLocked => 0x23
  | .swapPending => 0x24
  | .noSwap => 0x25
  | .flushPending => 0x26
  | .notLocked => 0x27
  | .conditionPresent => 0x28
  | .wrongState => 0x29

/-- The warm-up selection byte (R194). -/
def warmupCode : WarmupSel → Nat
  | .us128 => 0
  | .us512 => 1
  | .ms2 => 2
  | .ms8 => 3

def warmupOfCode : Nat → Option WarmupSel
  | 0 => some .us128
  | 1 => some .us512
  | 2 => some .ms2
  | 3 => some .ms8
  | _ => none

/-- The warm-up time in tu. -/
def warmupTu : WarmupSel → Nat
  | .us128 => 512
  | .us512 => 2048
  | .ms2 => 8000
  | .ms8 => 32000

def wakeSourceCode : WakeSource → Nat
  | .crankEdge => 0
  | .chipSelect => 1
  | .wakeLevel => 2
  | .bounce => 3

def clockCode : ClockSource → Nat
  | .reference => 0
  | .fallback => 1

/-! ### Cycle angles (R29) -/

/-- One engine cycle, in cs. -/
def cycleCs : Nat := 11520

/-- An angle taken mod 11 520. -/
def cycleMod (x : Int) : Nat := (x % 11520).toNat

/-- The distance from angle `a` to angle `b`: (b − a) mod 11 520. -/
def angleDist (a b : Nat) : Nat := cycleMod ((b : Int) - (a : Int))

/-- `θ` lies within the range from `lo` to `hi`, taken mod 11 520, both ends included. -/
def inRange (lo hi θ : Int) : Bool := cycleMod (θ - lo) ≤ cycleMod (hi - lo)

/-- The same test on the revolution angle, with 5760 in place of 11 520. -/
def inRevRange (lo hi θ : Int) : Bool := ((θ - lo) % 5760).toNat ≤ ((hi - lo) % 5760).toNat

/-- `θ` lies in the interval of length `len` that begins, exclusive, at angle `a`. -/
def inInterval (a len θ : Nat) : Bool := 1 ≤ angleDist a θ && angleDist a θ ≤ len

/-! ### Wheel geometry (R28) -/

/-- N_p, the pitch count. -/
def pitches : Wheel → Nat
  | .w36m1 => 36
  | .w36m2 => 36
  | .w60m1 => 60
  | .w60m2 => 60

/-- M, the missing teeth. -/
def missing : Wheel → Nat
  | .w36m1 => 1
  | .w36m2 => 2
  | .w60m1 => 1
  | .w60m2 => 2

/-- TPT, the ticks per pitch: 5760 div N_p. -/
def ticksPerTooth (w : Wheel) : Nat := 5760 / pitches w

/-- The index of the last real tooth of a revolution. -/
def lastTooth (w : Wheel) : Nat := pitches w - missing w - 1

/-- The span of the interval that follows tooth `i`: M + 1 after the last tooth, else 1. -/
def spanAfter (w : Wheel) (i : Nat) : Nat := if i = lastTooth w then missing w + 1 else 1

/-- The span of the interval that ends at tooth `i`: M + 1 at tooth 0, else 1. -/
def spanBefore (w : Wheel) (i : Nat) : Nat := if i = 0 then missing w + 1 else 1

/-- The angle at which a revolution begins (R11). -/
def revBase : Revolution → Nat
  | .a => 0
  | .b => 5760

def otherRev : Revolution → Revolution
  | .a => .b
  | .b => .a

/-! ### Entry parity (R77) -/

/-- The count of ones in the low `w` bits of `n`. -/
def onesIn : Nat → Nat → Nat
  | 0, _ => 0
  | w + 1, n => n % 2 + onesIn w (n / 2)

/-- The count of ones over an entry's kind, start angle and duration, in the widths in which a pulse entry
carries them (R204; log 20). -/
def entryOnes (kind : PulseKind) (start : Int) (duration : Nat) : Nat :=
  onesIn 8 (kindCode kind) + onesIn 16 (start % 65536).toNat + onesIn 16 duration

/-- An entry with a fresh parity bit: the count of ones with the bit is even. -/
def freshEntry (kind : PulseKind) (start : Int) (duration : Nat) : PlanEntry :=
  { kind := kind, start := start, duration := duration, parity := entryOnes kind start duration % 2 == 1 }

/-- The entry's parity matches. -/
def parityGood (e : PlanEntry) : Bool := (entryOnes e.kind e.start e.duration + bit e.parity) % 2 == 0

/-- How many of the entries fail their parity check. -/
def parityFailures (es : List PlanEntry) : Nat := (es.filter (fun e => !parityGood e)).length

/-! ### Firing positions -/

/-- The firing position with an index. A ring has at most eight. -/
def positionOf (i : Nat) : Position := Fin.ofNat 8 i

end Sys2Proof.Machine
end

