-- ==== Sys2Proof/Machine/Angle.lean ====
section
/-! DEFINITION. Angle prediction arithmetic (chapter 02): periods, gap test, prediction, delays, estimates
and speeds, as exact integer formulas, and the estimates a state gives. -/

namespace Sys2Proof.Machine

/-! ### Periods (R30 to R32) -/

/-- The stall limit, 4 000 000 tu (R30). -/
def stallLimit : Nat := 4000000

/-- The normalised period of a raw interval over a span, a 0 taken as 1 and a value above the stall limit
taken as the limit (R30). -/
def normalPeriod (raw span : Nat) : Nat := min stallLimit (max 1 (raw / span))

/-- The gap test of a raw interval against the period recorded before it; it fails when there is none
(R31). -/
def gapTest (w : Wheel) (raw : Nat) (before : Option Nat) : Bool :=
  match before with
  | none => false
  | some p => (2 * missing w + 1) * p ≤ 2 * raw && raw ≤ (missing w + 2) * p

/-- The correction c: ((P_k − P_(k−1)) × a) divided by 4, truncated toward zero (R32). -/
def correction (a previous current : Nat) : Int := Int.tdiv (((current : Int) - (previous : Int)) * (a : Int)) 4

/-- The predicted period (R32): the sum limited to P_k div 2 and 2 × P_k, a 0 taken as 1. -/
def predict (a : Nat) (previous : Option Nat) (current : Nat) : Nat :=
  match previous with
  | none => current
  | some p =>
    let sum := (current : Int) + correction a p current
    max 1 (max ((current / 2 : Nat) : Int) (min ((2 * current : Nat) : Int) sum)).toNat

/-- A period recorded: P_k becomes P_(k−1), and P̂ is computed from the two (R8, R30, R32). -/
def PeriodHistory.record (h : PeriodHistory) (a p : Nat) : PeriodHistory :=
  { previous := h.current, current := some p, predicted := some (predict a h.current p) }

/-- The history a gap error leaves: the last period recorded before it, alone, and P̂ equal to it (R12). -/
def PeriodHistory.reduce (h : PeriodHistory) : PeriodHistory :=
  { previous := none, current := h.current, predicted := h.current }

/-- The threshold of the glitch filter (R7). -/
def glitchThreshold (predicted : Option Nat) : Nat :=
  match predicted with
  | some p => p / 4
  | none => 200

/-- The glitch filter on an active edge at `now`: accepted when there is no last accepted edge, or the
interval is at least the threshold (R7). -/
def filterAccepts (last : Option Time) (predicted : Option Nat) (now : Time) : Bool :=
  match last with
  | none => true
  | some t => glitchThreshold predicted ≤ elapsed t now

/-! ### Delays (R34, R42) -/

/-- The start delay of an offset `d` from the anchor edge (R34). An offset of 0 has no delay. -/
def startDelay (w : Wheel) (d predicted : Nat) : Nat :=
  if d = 0 then 0 else (d * predicted + ticksPerTooth w / 2) / ticksPerTooth w

/-- The cam-only start delay of an offset `d` from the cam edge (R42). -/
def camDelay (d period : Nat) : Nat := (d * period + 5760) / 11520

/-! ### Estimates (R36 to R38) -/

/-- The elapsed time an estimate uses: a modular difference of 2^31 or more is taken as 0 (R36, R37). -/
def estimateElapsed (t now : Time) : Nat := if reached t now then elapsed t now else 0

/-- The crank-based estimate from the last accepted edge (R36). -/
def crankEstimate (w : Wheel) (α : Nat) (t : Time) (span predicted : Nat) (now : Time) : Nat :=
  (α + min (estimateElapsed t now * ticksPerTooth w / predicted) (span * ticksPerTooth w - 1)) % 11520

/-- The cam-based estimate from the last accepted cam edge, at γ (R37). -/
def camEstimate (γ period : Nat) (t now : Time) : Nat :=
  (γ + min (estimateElapsed t now * 11520 / period) 11519) % 11520

/-- The crank-based estimate a tracker gives, its last edge's cycle angle taken as it stands (R36). Absent
parts, which no run meets where this is used, give the last edge's angle or none (log 21). -/
def Tracker.crankAngle (t : Tracker) (now : Time) : Option Nat :=
  match t.lastEdge with
  | some ⟨time, some α⟩ =>
    match t.history.predicted with
    | some p => some (crankEstimate t.wheel.wheel α time (spanAfter t.wheel.wheel (t.toothIndex.getD 0)) p now)
    | none => some α
  | _ => none

/-- The cam-based estimate a tracker gives (R37). -/
def Tracker.camAngle (t : Tracker) (now : Time) : Option Nat :=
  match t.camHistory.lastEdge, t.camHistory.period with
  | some time, some c => some (camEstimate t.cam.gamma c time now)
  | _, _ => none

/-- The cycle angle of an instant as it is reported and recorded (R27, R38). -/
def Tracker.angleAt (t : Tracker) (now : Time) : Option Nat :=
  match t.sync with
  | .fullSync => t.crankAngle now
  | .phaseHeld => t.crankAngle now
  | .camOnly => t.camAngle now
  | .stopped => none
  | .seeking => none
  | .crankSync => none

/-! ### Speed (R39, R41) -/

/-- The crank speed of a normalised period (R39). -/
def crankSpeed (w : Wheel) (p : Nat) : Nat := min 65535 (240000000 / (pitches w * p))

/-- The cam-only speed of a cam period (R41). -/
def camSpeed (c : Nat) : Nat := min 65535 (480000000 / c)

/-- The cam period between two cam edges; a difference of 0 is taken as 1 (R40). -/
def camPeriod (last now : Time) : Nat := max 1 (elapsed last now)

end Sys2Proof.Machine
end

