-- ==== Sys2Proof/Machine/Flags.lean ====
section
/-! DEFINITION. Flags: what the Fueling Supervisor's flags amount to (R152, R153, R156), which notices the
mask lets through and which are faults (R180, R181, R184), and the bit layouts of details and flag bytes
(R205, R206). -/

namespace Sys2Proof.Machine

/-! ### Fueling flags -/

/-- The overspeed flag after a speed is judged (R152). -/
def overspeedAfter (f : Fueling) (speed : Nat) : Bool :=
  if f.overspeedLimit ≤ speed then true
  else if speed ≤ f.overspeedLimit - f.hysteresis then false
  else f.overspeed

/-- NO_CRANK is present: CAM_ONLY with the limp permission OFF (R156). -/
def noCrank (f : Fueling) : Bool := f.lastSync == .camOnly && !f.limpOn

/-- The set of cut reasons present, by bit (R156, R203). -/
def cutReasons (f : Fueling) : Nat :=
  bit f.hostCut + 2 * bit f.overspeed + 4 * bit f.expired + 8 * bit f.clockCut + 16 * bit (noCrank f)

/-- At least one cut reason is present (R156). -/
def anyCut (f : Fueling) : Bool := f.hostCut || f.overspeed || f.expired || f.clockCut || noCrank f

/-- The last sync state is STOPPED, SEEKING or CRANK_SYNC (R156, row 3). -/
def syncWaits : SyncState → Bool
  | .stopped => true
  | .seeking => true
  | .crankSync => true
  | .fullSync => false
  | .phaseHeld => false
  | .camOnly => false

/-- The fueling state, by the first matching row of the table of R156. -/
def derivedState (f : Fueling) : FuelState :=
  if !f.armed then .disarmed
  else if anyCut f then .cut
  else if syncWaits f.lastSync then .syncWait
  else if f.lastSync = .camOnly then .limp
  else if f.holdLimit ≤ f.lastAge then .aged
  else .normal

/-- NORMAL, AGED and LIMP are the injecting states (R156). -/
def injecting : FuelState → Bool
  | .normal => true
  | .aged => true
  | .limp => true
  | .disarmed => false
  | .cut => false
  | .syncWait => false

/-! ### Notice kinds -/

/-- The set position of a fault kind; none for a report kind (R180). -/
def faultPosition : NoticeKind → Option (Fin 8)
  | .peakTimeout => some 0
  | .bankShort => some 1
  | .storeParity => some 2
  | .cylMasked => some 3
  | .phaseFlip => some 4
  | .crankLost => some 5
  | .clockLoss => some 6
  | .planExpired => some 7
  | .reset => none
  | .syncGained => none
  | .syncLost => none
  | .camMissing => none
  | .reverse => none
  | .swapDone => none
  | .fuelState => none
  | .pulseDropped => none
  | .pulseTruncated => none
  | .flushDone => none
  | .wake => none

/-- The kind is a fault kind (R180). -/
def isFault (k : NoticeKind) : Bool := (faultPosition k).isSome

/-- A raised notice is offered to the queue: a fault kind, or its mask entry is REPORT (R181). The entry of
RESET is fixed at REPORT (R180, R184). -/
def offered (mask : BitVec 19) (k : NoticeKind) : Bool :=
  isFault k || k == .reset || mask.getLsbD (noticeCode k)

/-- The mask entries SET_NOTICE_MASK replaces: the ten report kinds other than RESET, codes 1, 2, 4, 6, 7,
8, 10, 11, 15 and 17 (R184). -/
def maskWritable : BitVec 19 := 0x28DD6#19

/-- The mask after a SET_NOTICE_MASK with a 24-bit field (R184). -/
def maskAfter (mask : BitVec 19) (field : Nat) : BitVec 19 :=
  (mask &&& ~~~maskWritable) ||| (BitVec.ofNat 19 field &&& maskWritable)

/-- The one-member set of a set position. -/
def faultBit (p : Fin 8) : BitVec 8 := 1#8 <<< p.val

/-! ### Details of notices (R205) -/

def half (n : Nat) : Half := BitVec.ofNat 16 n

/-- FUEL_STATE: old state, new state, cause, cut reasons. -/
def fuelStateDetail (old new : FuelState) (cause : FuelCause) (reasons : Nat) : Half :=
  half (fuelCode old + 8 * fuelCode new + 64 * fuelCauseCode cause + 512 * reasons)

/-- SWAP_DONE: tag; bit 8 clear at an origin event, set at once. -/
def swapDoneDetail (tag : Byte) (atOnce : Bool) : Half := half (tag.toNat + 256 * bit atOnce)

/-- PLAN_EXPIRED: plan age, cut limit. -/
def planExpiredDetail (age limit : Nat) : Half := half (age + 256 * limit)

/-- PULSE_DROPPED: drop reason, kind, the request's cycle number. -/
def droppedDetail (reason : DropReason) (kind : PulseKind) (cycle : Byte) : Half :=
  half ((reasonCode reason).val + 16 * kindCode kind + 256 * cycle.toNat)

/-- PEAK_TIMEOUT: kind, drive bank. -/
def peakTimeoutDetail (kind : PulseKind) (bank : Bank) : Half := half (kindCode kind + 256 * bankCode bank)

/-- BANK_SHORT: the aborted occupant's cylinder and kind, both 0xFF when there was none. -/
def bankShortDetail (occupant : Option Request) : Half :=
  match occupant with
  | some r => half (cylNumber r.cylinder + 256 * kindCode r.kind)
  | none => half 65535

/-- STORE_PARITY: plan bank or limp plan, entries failed, plan read or copy. -/
def storeParityDetail (source failures : Nat) (copy : Bool) : Half :=
  half (source + 16 * failures + 256 * bit copy)

/-! ### Flag bytes of READ_STATUS (R206) -/

/-- The set of wake enables (R203). -/
def wakeCode (w : WakeEnables) : Nat := bit w.crankEdge + 2 * bit w.chipSelect + 4 * bit w.wakeLevel

/-- The seven switches: root, middle switches, low switches. -/
def treeCode (t : Tree) : Nat :=
  bit t.root + 2 * bit t.midLow + 4 * bit t.midHigh + 8 * bit t.low01 + 16 * bit t.low23 +
    32 * bit t.low45 + 64 * bit t.low67

/-- The Fueling Supervisor's flag byte. -/
def fuelingFlags (f : Fueling) : Nat :=
  bit f.armed + 2 * bit f.hostCut + 4 * bit f.overspeed + 8 * bit f.clockCut + 16 * bit f.expired

end Sys2Proof.Machine
end

