-- ==== Sys2Proof/Machine/Ops.lean ====
section
/-! DEFINITION. The named operations that more than one command uses: reading and replacing parts of the
state, counters, raising a notice (R181), the Pulse Queue's order and drops (R86, R100), the report of a
pulse's end (R56, R58), the recharge (R109), and storing a reply (R168). -/

namespace Sys2Proof.Machine

/-! ### Parts of the state -/

/-- The timebase. -/
def State.now (s : State) : Time := s.control.timebase

/-- The part is in RUN: the mode in which every block works (chapter 11). -/
def State.running (s : State) : Bool := s.control.mode == .run

/-- A drive bank. -/
def State.drive (s : State) : Bank → DriveBank
  | .a => s.driveA
  | .b => s.driveB

/-- A drive bank replaced. -/
def State.setDrive (s : State) (x : Bank) (d : DriveBank) : State :=
  match x with
  | .a => { s with driveA := d }
  | .b => { s with driveB := d }

/-- The Cylinder Table's state of a cylinder. -/
def State.cyl (s : State) (c : Cylinder) : CylState := s.table.cyls.get c

/-- The Cylinder Table's state of a cylinder replaced. -/
def State.setCyl (s : State) (c : Cylinder) (x : CylState) : State :=
  { s with table := { s.table with cyls := s.table.cyls.set c x } }

/-- The level of SHORT_x. -/
def State.shortLevel (s : State) : Bank → Bool
  | .a => s.pins.shortA
  | .b => s.pins.shortB

/-- A plan bank. -/
def Store.bank (t : Store) : Bank → PlanBank
  | .a => t.planA
  | .b => t.planB

/-- A plan bank replaced. -/
def Store.setBank (t : Store) (x : Bank) (p : PlanBank) : Store :=
  match x with
  | .a => { t with planA := p }
  | .b => { t with planB := p }

/-- The effective mode of a cylinder: CUT when masked or flush-pending, else the host mode (R52). -/
def effectiveMode (c : CylState) : CylMode := if c.masked || c.flushPending then .cut else c.hostMode

/-! ### Counters (R185) -/

/-- An increment that stays at `top` once it is reached. -/
def satInc (top n : Nat) : Nat := min top (n + 1)

/-- A 16-bit saturating increment (R185). -/
def inc16 (n : Nat) : Nat := satInc 65535 n

def countGlitch (s : State) : State :=
  { s with notices := { s.notices with glitch := inc16 s.notices.glitch } }

def countGapError (s : State) : State :=
  { s with notices := { s.notices with gapError := inc16 s.notices.gapError } }

def countCamNoise (s : State) : State :=
  { s with notices := { s.notices with camNoise := inc16 s.notices.camNoise } }

def countCamConflict (s : State) : State :=
  { s with notices := { s.notices with camConflict := inc16 s.notices.camConflict } }

def countMiss (s : State) : State :=
  { s with notices := { s.notices with predictionMiss := inc16 s.notices.predictionMiss } }

def countClamp (s : State) : State :=
  { s with notices := { s.notices with clamp := inc16 s.notices.clamp } }

/-- The grant counter wraps from 2^32 − 1 to 0 (R185). -/
def countGrant (s : State) : State :=
  { s with notices := { s.notices with grants := s.notices.grants + 1 } }

/-- One drop under a reason (R185). -/
def countDrop (reason : DropReason) (s : State) : State :=
  let n := inc16 s.notices.dropCounts[reasonCode reason]
  { s with notices := { s.notices with dropCounts := s.notices.dropCounts.set (reasonCode reason) n } }

/-! ### Raising a notice (R179, R181, R188) -/

/-- Step 1: the kind counter increments. -/
def NoticeUnit.count (u : NoticeUnit) (k : NoticeKind) : NoticeUnit :=
  let n := inc16 u.kindCounts[noticeCode k]
  { u with kindCounts := u.kindCounts.set (noticeCode k) n }

/-- Step 2: a fault kind enters the summary, and is captured when the summary was empty (R188). -/
def NoticeUnit.record (u : NoticeUnit) (f : FirstFault) : NoticeUnit :=
  match faultPosition f.kind with
  | none => u
  | some p =>
    { u with
      summary := u.summary ||| faultBit p
      first := if u.summary = 0#8 then some f else u.first }

/-- Steps 3 and 4: an offered notice joins the queue, or is discarded when the queue is full (R181). ALERT_N
is asserted as a notice enters (R182). -/
def NoticeUnit.offer (u : NoticeUnit) (n : Notice) : NoticeUnit :=
  if offered u.mask n.kind then
    if u.queue.length < 32 then { u with queue := u.queue ++ [n], alert := true }
    else { u with overflow := satInc 255 u.overflow }
  else u

/-- A notice is raised with a timestamp. `bank` is the drive bank the first-fault detail carries for the
kinds that have one (R188). The cycle number in force is added. -/
def raiseAt (stamp : Time) (kind : NoticeKind) (subject : Subject) (bank : Option Bank) (detail : Half)
    (s : State) : State :=
  let cycle := s.tracker.cycle
  let fault : FirstFault :=
    { kind, subject, bank, detail, cycle, angle := s.tracker.angleAt stamp, timestamp := stamp }
  let notice : Notice := { kind, subject, cycle, detail, timestamp := stamp }
  { s with notices := ((s.notices.count kind).record fault).offer notice }

/-- A notice is raised at the event's timebase value (R179). -/
def raise (kind : NoticeKind) (subject : Subject) (bank : Option Bank) (detail : Half) (s : State) : State :=
  raiseAt s.now kind subject bank detail s

/-! ### The Pulse Queue (R84 to R86, R100) -/

/-- What identifies a request (R85). -/
def Request.id (r : Request) : RequestId := ⟨r.cylinder, r.kind, r.cycle⟩

/-- BOOST and HOLD are the driving states (05, section 5.2). -/
def driving : RequestState → Bool
  | .boost => true
  | .hold => true
  | .planned => false
  | .armed => false
  | .due => false

/-- The group of a state in queue order (R86). -/
def queueGroup : RequestState → Nat
  | .boost => 1
  | .hold => 1
  | .due => 2
  | .armed => 3
  | .planned => 3

/-- `a` is earlier than `b` (R1). -/
def earlier (a b : Time) : Bool := !reached b a

/-- Among equals, increasing priority class and then increasing firing position (R86). -/
def tieBefore (r x : Request) : Bool :=
  kindClass r.kind < kindClass x.kind ||
    (kindClass r.kind == kindClass x.kind && r.position.val < x.position.val)

/-- `r` stands strictly before `x` in queue order (R86). Requests that compare equal keep the order of their
insertion, and driving requests the order of their grants. -/
def Request.before (r x : Request) : Bool :=
  if queueGroup r.state ≠ queueGroup x.state then queueGroup r.state < queueGroup x.state
  else if queueGroup r.state = 1 then false
  else if queueGroup r.state = 2 then
    earlier (r.dueTime.getD 0) (x.dueTime.getD 0) || (r.dueTime.getD 0 == x.dueTime.getD 0 && tieBefore r x)
  else r.sortKey < x.sortKey || (r.sortKey == x.sortKey && tieBefore r x)

/-- A request enters the list in its place in queue order (R86). -/
def insertRequest (r : Request) : List Request → List Request
  | [] => [r]
  | x :: xs => if r.before x then r :: x :: xs else x :: insertRequest r xs

/-- The requests replaced. -/
def State.setRequests (s : State) (rs : List Request) : State :=
  { s with queue := { s.queue with requests := rs } }

/-- A request leaves the queue. -/
def removeRequest (r : Request) (s : State) : State := s.setRequests (s.queue.requests.erase r)

/-- A record of the queue is changed and takes its new place in queue order. A record that is not in the queue
is not changed. -/
def moveRequest (old new : Request) (s : State) : State :=
  if old ∈ s.queue.requests then s.setRequests (insertRequest new (s.queue.requests.erase old)) else s

/-- The request with an identity. -/
def findRequest (id : RequestId) (s : State) : Option Request :=
  s.queue.requests.find? (fun r => r.id == id)

/-- A drop's count and notice (R100, steps 2 and 3), also for a candidate that never entered (R104). -/
def noteDrop (reason : DropReason) (r : Request) (s : State) : State :=
  raise .pulseDropped (.cylinder r.cylinder) none (droppedDetail reason r.kind r.cycle) (countDrop reason s)

/-- A drop carried out on a request of the queue (R100). -/
def dropRequest (reason : DropReason) (r : Request) (s : State) : State :=
  noteDrop reason r (removeRequest r s)

/-- One order that reaches several requests: they are dropped in queue order (R100). -/
def dropWhere (reason : DropReason) (reaches : Request → Bool) (s : State) : State :=
  (s.queue.requests.filter reaches).foldl (fun t r => dropRequest reason r t) s

/-- The order that reaches every request in PLANNED, ARMED or DUE (R101, R102). -/
def dropNonDriving (reason : DropReason) (s : State) : State :=
  dropWhere reason (fun r => !driving r.state) s

/-! ### Drive banks, outputs and the end of a pulse -/

/-- The occupant of a drive bank: its request in BOOST or HOLD (R108, R129). -/
def occupant (x : Bank) (s : State) : Option Request :=
  s.queue.requests.find? (fun r => r.bank == x && driving r.state)

/-- The waiting set of a drive bank, in queue order: its DUE requests handed over and not yet granted or
removed (R108, R110). -/
def waiting (x : Bank) (s : State) : List Request :=
  s.queue.requests.filter (fun r => r.bank == x && r.state == .due && r.lateExpiry.isSome)

/-- The outputs of an occupant go off, and its pulse record is discarded (R130, R138). -/
def outputsOff (x : Bank) (c : Cylinder) (s : State) : State :=
  let s := s.setDrive x { s.drive x with boostOut := false, holdOut := false, pulse := none }
  { s with sel := s.sel.set c false }

/-- The recharge of a bank starts at a time, with the recharge time in force (R109). -/
def startRecharge (x : Bank) (t : Time) (s : State) : State :=
  s.setDrive x { s.drive x with charge := .charging (some (later t s.queue.limits.recharge)) }

/-- The recharge an end in BOOST starts; an end in HOLD starts none (R139). -/
def rechargeIfBoost (x : Bank) (r : Request) (t : Time) (s : State) : State :=
  if r.state = .boost then startRecharge x t s else s

/-- The end of a pulse is reported to the Cylinder Table: the last end is recorded, and a pending flush
completes with FLUSH_DONE (R56, R58). -/
def reportEnd (c : Cylinder) (t : Time) (detail : Nat) (s : State) : State :=
  if (s.cyl c).flushPending then
    raise .flushDone (.cylinder c) none (half detail)
      (s.setCyl c { s.cyl c with lastEnd := some t, flushPending := false })
  else s.setCyl c { s.cyl c with lastEnd := some t }

/-- Each bank whose SHORT_x is asserted and that is not locked becomes locked, with BANK_SHORT (R126). -/
def judgeLock (x : Bank) (s : State) : State :=
  if s.shortLevel x && !(s.drive x).locked then
    raise .bankShort (.bank x) (some x) (bankShortDetail none) (s.setDrive x { s.drive x with locked := true })
  else s

/-! ### Answers of commands (R168) -/

/-- What the owner of a command returns: the state after it, the reply's status and payload. -/
structure Answer where
  state : State
  status : Status
  payload : List Byte

/-- A command carried out, or one that only reads. -/
def answerOk (s : State) (payload : List Byte) : Answer := ⟨s, .ok, payload⟩

/-- A command refused: its owner changes nothing (R172). -/
def refuse (s : State) (status : Status) (payload : List Byte) : Answer := ⟨s, status, payload⟩

/-- A payload length other than the catalogue's is refused with BAD_VALUE and an empty payload, before any
other check of the command (R171). -/
def withLength (n : Nat) (p : List Byte) (s : State) (run : State → Answer) : Answer :=
  if p.length = n then run s else refuse s .badValue []

/-- A frame's command is carried out in RUN, and its reply stored with the frame's tag (R166, R168). Outside
RUN a frame is discarded (R164; log 3). -/
def carryOut (tag : Byte) (p : List Byte) (own : List Byte → State → Answer) (s : State) : State :=
  if s.running then
    let a := own p s
    let reply : Reply := { status := a.status, tag := tag, payload := a.payload }
    { a.state with link := { a.state.link with reply := reply, lastTag := tag } }
  else s

end Sys2Proof.Machine
end

