-- ==== Sys2Proof/Machine/Supervisor.lean ====
section
/-! DEFINITION. The Fueling Supervisor (chapter 08): the derivation and its notices and drops (R156 to
R158), the judgments of speed and age (R152, R153), the clock switch (R154), and the commands ARM, DISARM,
FUEL_CUT and SET_FUELING. -/

namespace Sys2Proof.Machine

/-- The Fueling Supervisor's part of the state replaced. -/
def State.setFueling (s : State) (f : Fueling) : State := { s with fueling := f }

/-- The fueling state is derived afresh. When it differs, FUEL_STATE is raised, and leaving an injecting
state for one that does not inject drops the non-driving requests (R157, R158). -/
def deriveFueling (cause : FuelCause) (s : State) : State :=
  let old := s.fueling.state
  let new := derivedState s.fueling
  if new = old then s
  else
    let s := raise .fuelState .absent none (fuelStateDetail old new cause (cutReasons s.fueling))
      (s.setFueling { s.fueling with state := new })
    if injecting old && !injecting new then dropNonDriving .fuelState s else s

/-- The overspeed flag judged against the last speed (R152). -/
def judgeSpeed (s : State) : State :=
  s.setFueling { s.fueling with overspeed := overspeedAfter s.fueling s.fueling.lastSpeed }

/-- The expired flag judged against the last age; its setting raises PLAN_EXPIRED (R153). -/
def judgeExpired (s : State) : State :=
  let f := s.fueling
  if !f.expired && f.cutLimit ≤ f.lastAge then
    raise .planExpired .absent none (planExpiredDetail f.lastAge f.cutLimit) (s.setFueling { f with expired := true })
  else if f.expired && f.lastAge < f.cutLimit then s.setFueling { f with expired := false }
  else s

/-- The tracker hands its speed: stored, judged, derived (R152, R155). -/
def handSpeed (s : State) : State :=
  deriveFueling .speed (judgeSpeed (s.setFueling { s.fueling with lastSpeed := s.tracker.speed }))

/-- The tracker hands its sync state: stored, derived (R155). -/
def handSync (s : State) : State :=
  deriveFueling .sync (s.setFueling { s.fueling with lastSync := s.tracker.sync })

/-- The Schedule Store hands the plan age: stored, judged, derived (R76, R153). -/
def handAge (s : State) : State :=
  deriveFueling .age (judgeExpired (s.setFueling { s.fueling with lastAge := s.store.age }))

/-- The switch of the clock source is handed over: the clock-cut flag follows, and the state is derived
(R154). -/
def handClock (s : State) : State :=
  deriveFueling .clock (s.setFueling { s.fueling with clockCut := s.control.clock == .fallback })

/-- The one-byte reply of ARM, DISARM and FUEL_CUT: the fueling state after the command (R207). -/
def fuelReply (s : State) : List Byte := [byte (fuelCode s.fueling.state)]

/-- ARM (R149). -/
def ownArm (p : List Byte) (s : State) : Answer :=
  withLength 0 p s fun s =>
    let s := deriveFueling .arm (s.setFueling { s.fueling with armed := true })
    answerOk s (fuelReply s)

/-- DISARM (R149). -/
def ownDisarm (p : List Byte) (s : State) : Answer :=
  withLength 0 p s fun s =>
    let s := deriveFueling .disarm (s.setFueling { s.fueling with armed := false })
    answerOk s (fuelReply s)

/-- FUEL_CUT (R150): 1 for on, 0 for off. -/
def ownFuelCut (p : List Byte) (s : State) : Answer :=
  withLength 1 p s fun s =>
    if 1 < u8 p 0 then refuse s .badValue []
    else
      let s := deriveFueling .host (s.setFueling { s.fueling with hostCut := u8 p 0 == 1 })
      answerOk s (fuelReply s)

/-- The first field of SET_FUELING that fails, in the order of R151. -/
def fuelingFailure (p : List Byte) : Option Nat :=
  if u8 p 0 < 1 || 254 < u8 p 0 then some 1
  else if u8 p 1 < 2 || 255 < u8 p 1 then some 2
  else if u16 p 2 < 1000 || 4000 < u16 p 2 then some 3
  else if u16 p 4 < 50 || 500 < u16 p 4 then some 4
  else if 1 < u8 p 6 then some 5
  else if u8 p 1 ≤ u8 p 0 then some 6
  else none

/-- SET_FUELING (R151): the settings are replaced, the overspeed flag and the expired flag judged, and the
state derived once. -/
def ownSetFueling (p : List Byte) (s : State) : Answer :=
  withLength 7 p s fun s =>
    match fuelingFailure p with
    | some field => refuse s .badValue [byte field]
    | none =>
      let f := { s.fueling with
        holdLimit := u8 p 0, cutLimit := u8 p 1, overspeedLimit := u16 p 2, hysteresis := u16 p 4
        limpOn := u8 p 6 == 1 }
      answerOk (deriveFueling .settings (judgeExpired (judgeSpeed (s.setFueling f)))) []

/-- The meaning of ARM. -/
def execArm (tag : Byte) (p : List Byte) (s : State) : Host.Outcome State Fault Refusal :=
  .next (carryOut tag p ownArm s)

/-- The meaning of DISARM. -/
def execDisarm (tag : Byte) (p : List Byte) (s : State) : Host.Outcome State Fault Refusal :=
  .next (carryOut tag p ownDisarm s)

/-- The meaning of FUEL_CUT. -/
def execFuelCut (tag : Byte) (p : List Byte) (s : State) : Host.Outcome State Fault Refusal :=
  .next (carryOut tag p ownFuelCut s)

/-- The meaning of SET_FUELING. -/
def execSetFueling (tag : Byte) (p : List Byte) (s : State) : Host.Outcome State Fault Refusal :=
  .next (carryOut tag p ownSetFueling s)

end Sys2Proof.Machine
end

