-- ==== Sys2Proof/Machine/Arbiter.lean ====
section
/-! DEFINITION. The Drive Arbiter up to the grant (chapter 06): candidacy, the auction and its tie-break
tree, the grant, the hand-over, truncation, lateness, the recharge, the separation, and RELEASE_BANK. -/

namespace Sys2Proof.Machine

/-! ### Freedom of a cylinder (R112) -/

/-- A request of the cylinder is in BOOST or HOLD, on either drive bank. -/
def cylDriving (c : Cylinder) (s : State) : Bool :=
  s.queue.requests.any (fun r => r.cylinder == c && driving r.state)

/-- The last-end record is invalid, or the separation point has been reached under a minimum separation. -/
def separatedUnder (minSep : Nat) (c : Cylinder) (s : State) : Bool :=
  match (s.cyl c).lastEnd with
  | none => true
  | some t => reached (later t minSep) s.now

/-- The same under the minimum separation in force. -/
def separated (c : Cylinder) (s : State) : Bool := separatedUnder s.queue.limits.minSeparation c s

/-- The cylinder is free for a grant (R112). -/
def cylFree (c : Cylinder) (s : State) : Bool := !cylDriving c s && separated c s

/-! ### Candidates (R111) -/

/-- What candidacy asks of the bank and of the fueling state. -/
def bankOpen (x : Bank) (s : State) : Bool :=
  !(s.drive x).locked && (occupant x s).isNone && (s.drive x).charge == .ready && injecting s.fueling.state

/-- The candidates at an auction of a bank, in queue order. -/
def candidates (x : Bank) (s : State) : List Request :=
  if bankOpen x s then (waiting x s).filter (fun r => cylFree r.cylinder s) else []

/-! ### The tie-break tree (R115 to R117) -/

/-- One switch of the walk: the preferred child if it holds a candidate, else the other. -/
def walkSwitch (switch lower upper : Bool) : Bool := if switch then upper else !lower

/-- The firing position the walk chooses, given which positions hold a remaining candidate (R116). -/
def Tree.walk (t : Tree) (holds : Position → Bool) : Position :=
  let up := walkSwitch t.root (holds 0 || holds 1 || holds 2 || holds 3) (holds 4 || holds 5 || holds 6 || holds 7)
  if up then
    if walkSwitch t.midHigh (holds 4 || holds 5) (holds 6 || holds 7) then
      if walkSwitch t.low67 (holds 6) (holds 7) then 7 else 6
    else if walkSwitch t.low45 (holds 4) (holds 5) then 5 else 4
  else
    if walkSwitch t.midLow (holds 0 || holds 1) (holds 2 || holds 3) then
      if walkSwitch t.low23 (holds 2) (holds 3) then 3 else 2
    else if walkSwitch t.low01 (holds 0) (holds 1) then 1 else 0

/-- After a grant, each switch on the path to the position points at the child the path did not take; the
other four keep their direction (R117). -/
def Tree.served (t : Tree) (p : Position) : Tree :=
  match p.val with
  | 0 => { t with root := true, midLow := true, low01 := true }
  | 1 => { t with root := true, midLow := true, low01 := false }
  | 2 => { t with root := true, midLow := false, low23 := true }
  | 3 => { t with root := true, midLow := false, low23 := false }
  | 4 => { t with root := false, midHigh := true, low45 := true }
  | 5 => { t with root := false, midHigh := true, low45 := false }
  | 6 => { t with root := false, midHigh := false, low67 := true }
  | _ => { t with root := false, midHigh := false, low67 := false }

/-! ### The auction (R113, R114) and the grant (R118) -/

/-- The class step: the candidates of the lowest class present (R114, step 1). -/
def lowestClass (rs : List Request) : List Request :=
  rs.filter (fun r => rs.all (fun x => kindClass r.kind ≤ kindClass x.kind))

/-- The choice of an auction: the class step, then the tree, then queue order (R114). -/
def chooseAmong (t : Tree) (rs : List Request) : Option Request :=
  match lowestClass rs with
  | [] => none
  | [r] => some r
  | kept => kept.find? (fun r => r.position == t.walk (fun p => kept.any (fun k => k.position == p)))

/-- The pulse record a grant sets up. The peak timer is armed when the duration is greater than the peak
timeout in force (R131). -/
def pulseRecord (r : Request) (now : Time) (peakTimeout : Nat) : PulseRecord :=
  { grantTime := now
    durationEnd := later now r.duration
    peakExpiry := if peakTimeout < r.duration then some (later now peakTimeout) else none }

/-- The grant wait in µs (R119). -/
def grantWait (r : Request) (now : Time) : Nat := usOf (elapsed (r.dueTime.getD now) now)

/-- A grant on a drive bank (R117 to R119, R131). -/
def grant (x : Bank) (r : Request) (s : State) : State :=
  let d := s.drive x
  let s := moveRequest r { r with state := .boost, lateExpiry := none } s
  let s := s.setDrive x { d with
    charge := .charging none
    tree := d.tree.served r.position
    waitMark := max d.waitMark (grantWait r s.now)
    boostOut := true
    pulse := some (pulseRecord r s.now s.queue.limits.peakTimeout) }
  countGrant { s with sel := s.sel.set r.cylinder true }

/-- The occupant is an AFTER or a POST in HOLD, and a MAIN of another cylinder waits (R121). -/
def truncates (x : Bank) (o : Request) (s : State) : Bool :=
  o.state == .hold && 3 ≤ kindClass o.kind &&
    (waiting x s).any (fun r => r.kind == .main && r.cylinder != o.cylinder)

/-- The delivered duration of a truncated pulse, in µs (R121). -/
def delivered (x : Bank) (s : State) : Nat :=
  usOf (elapsed (((s.drive x).pulse.map (·.grantTime)).getD s.now) s.now)

/-- The truncation judgment (R121), but for the auction that follows it. It is judged at every auction, that of
a separation that a SET_LIMITS lets elapse among them (log 29). -/
def judgeTruncation (x : Bank) (s : State) : State :=
  match occupant x s with
  | none => s
  | some o =>
    if truncates x o s then
      let cut := delivered x s
      let s := reportEnd o.cylinder s.now 1 (outputsOff x o.cylinder s)
      raise .pulseTruncated (.cylinder o.cylinder) none (half cut) (removeRequest o s)
    else s

/-- An auction on a drive bank (R113, R114). It judges truncation first (R121); the auction that the
truncation's own end runs is this one, since a second auction of the same state grants nothing. No auction
runs on a locked bank (R124). -/
def auction (x : Bank) (s : State) : State :=
  if (s.drive x).locked then s
  else
    let s := judgeTruncation x s
    match chooseAmong (s.drive x).tree (candidates x s) with
    | none => s
    | some r => grant x r s

/-- A lateness limit of 0 gives a request its own hand-over's auction and no later one: still waiting after
that auction, it is dropped as LATE within the hand-over (R120; log 27). -/
def expireAtOnce (waits : Request) (s : State) : State :=
  if waits.lateness = 0 ∧ waits ∈ s.queue.requests then dropRequest .late waits s else s

/-- A DUE request is handed to the arbiter: it joins its bank's waiting set with its lateness timer, and
truncation and an auction follow (R110). -/
def handOver (r : Request) (s : State) : State :=
  let waits := { r with lateExpiry := some (later (r.dueTime.getD 0) r.lateness) }
  expireAtOnce waits (auction r.bank (moveRequest r waits s))

/-! ### Events of the arbiter -/

/-- A lateness expiry drops the waiting request as LATE (R120). -/
def lateness (id : RequestId) (s : State) : State :=
  match findRequest id s with
  | none => s
  | some r =>
    match r.state, r.lateExpiry with
    | .due, some t => if reached t s.now then dropRequest .late r s else s
    | _, _ => s

/-- The recharge completes: the charge becomes READY, and an auction runs when the bank is unlocked
(R109). -/
def recharged (x : Bank) (s : State) : State :=
  match (s.drive x).charge with
  | .charging (some t) =>
    if reached t s.now then auction x (s.setDrive x { s.drive x with charge := .ready }) else s
  | _ => s

/-- An auction on a bank whose waiting set holds a request of the cylinder (R112). -/
def auctionFor (c : Cylinder) (x : Bank) (s : State) : State :=
  if (waiting x s).any (fun r => r.cylinder == c) then auction x s else s

/-- A cylinder's separation elapses: an auction on each bank that waits for it (R112). It elapses too where the
last-end record has become invalid: the point has passed then, and with a minimum separation of 8000 tu both fall
at one instant, in either order. That is the model's choice (log 32), and an exception to log 7. -/
def separationElapses (c : Cylinder) (s : State) : State :=
  if separated c s then auctionFor c .b (auctionFor c .a s) else s

/-- The last-end record is marked invalid 8000 tu after the recorded end (R56). -/
def lastEndExpires (c : Cylinder) (s : State) : State :=
  match (s.cyl c).lastEnd with
  | none => s
  | some t => if reached (later t 8000) s.now then s.setCyl c { s.cyl c with lastEnd := none } else s

/-- RELEASE_BANK (R125). -/
def ownReleaseBank (p : List Byte) (s : State) : Answer :=
  withLength 1 p s fun s =>
    match bankOfCode (u8 p 0) with
    | none => refuse s .badValue []
    | some x =>
      if s.shortLevel x then refuse s .conditionPresent []
      else if !(s.drive x).locked then refuse s .notLocked []
      else answerOk (auction x (s.setDrive x { s.drive x with locked := false })) []

/-- The meaning of LATENESS_EXPIRY. -/
def execLatenessExpiry (id : RequestId) (s : State) : Host.Outcome State Fault Refusal :=
  .next (if s.running then lateness id s else s)

/-- The meaning of RECHARGE_COMPLETE. -/
def execRechargeComplete (x : Bank) (s : State) : Host.Outcome State Fault Refusal :=
  .next (if s.running then recharged x s else s)

/-- The meaning of SEPARATION_ELAPSE. -/
def execSeparationElapse (c : Cylinder) (s : State) : Host.Outcome State Fault Refusal :=
  .next (if s.running then separationElapses c s else s)

/-- The meaning of LAST_END_INVALID. -/
def execLastEndInvalid (c : Cylinder) (s : State) : Host.Outcome State Fault Refusal :=
  .next (if s.running then lastEndExpires c s else s)

/-- The meaning of RELEASE_BANK. -/
def execReleaseBank (tag : Byte) (p : List Byte) (s : State) : Host.Outcome State Fault Refusal :=
  .next (carryOut tag p ownReleaseBank s)

end Sys2Proof.Machine
end

