-- ==== Sys2Proof/Machine/Pulse.lean ====
section
/-! DEFINITION. A pulse from its grant to its end (chapter 07): the peak, the peak timeout, the duration
end, the short, and the aborts that a reverse edge, a soft reset and ENTER_STANDBY make. -/

namespace Sys2Proof.Machine

/-! ### Peak reports (R53, R54) -/

/-- A peak failure: the failure count increments to at most 15, and at the threshold the cylinder is
masked with CYL_MASKED (R53). `x` is the drive bank of the pulse (R188). -/
def peakFailure (c : Cylinder) (x : Bank) (s : State) : State :=
  let k := s.cyl c
  let n := satInc 15 k.failures
  if !k.masked && s.table.maskThreshold ≤ n then
    raise .cylMasked (.cylinder c) (some x) (half n) (s.setCyl c { k with failures := n, masked := true })
  else s.setCyl c { k with failures := n }

/-- A peak success: the failure count becomes 0 (R54). -/
def peakSuccess (c : Cylinder) (s : State) : State := s.setCyl c { s.cyl c with failures := 0 }

/-! ### The boost phase (R133 to R137) -/

/-- A rising edge of PEAK_x. It is a peak only while the occupant is in BOOST (R133, R134). -/
def peakRises (x : Bank) (s : State) : State :=
  match occupant x s with
  | none => s
  | some o =>
    if o.state = .boost then
      let d := s.drive x
      let s := s.setDrive x { d with
        boostOut := false
        holdOut := true
        pulse := d.pulse.map (fun p => { p with peakExpiry := none }) }
      -- BOOST to HOLD keeps the record's place in its group of queue order (R86)
      let s := s.setRequests (s.queue.requests.map (fun r => if r = o then { o with state := .hold } else r))
      peakSuccess o.cylinder (startRecharge x s.now s)
    else s

/-- The peak timer of the occupant in BOOST expires at `t`: the steps of R135 in their order. -/
def peakTimesOut (x : Bank) (o : Request) (t : Time) (s : State) : State :=
  let s := startRecharge x t (outputsOff x o.cylinder s)
  let s := raiseAt t .peakTimeout (.cylinder o.cylinder) (some x) (peakTimeoutDetail o.kind x) s
  let s := reportEnd o.cylinder t 2 (peakFailure o.cylinder x s)
  auction x (dropRequest .aborted o s)

/-- The event of a peak timer expiry: it finds an occupant in BOOST whose timer has run out, or nothing
(R135, R136). -/
def peakExpires (x : Bank) (s : State) : State :=
  match occupant x s, (s.drive x).pulse with
  | some o, some p =>
    match p.peakExpiry with
    | some t => if o.state == .boost && reached t s.now then peakTimesOut x o t s else s
    | none => s
  | _, _ => s

/-! ### The ordinary end (R137, R138) -/

/-- The duration end time of the occupant is reached at `t`, in HOLD or in BOOST. -/
def pulseEnds (x : Bank) (o : Request) (t : Time) (s : State) : State :=
  let s := rechargeIfBoost x o t (outputsOff x o.cylinder s)
  auction x (removeRequest o (reportEnd o.cylinder t 0 s))

/-- The event of a duration end. -/
def durationEnds (x : Bank) (s : State) : State :=
  match occupant x s, (s.drive x).pulse with
  | some o, some p => if reached p.durationEnd s.now then pulseEnds x o p.durationEnd s else s
  | _, _ => s

/-! ### Aborts (R140, R141, R143, R195) -/

/-- The effects every abort of an occupant begins with: outputs off, recharge started when in BOOST, and
the end reported with a flush detail (R140, R141). -/
def abortBegin (x : Bank) (o : Request) (s : State) : State :=
  reportEnd o.cylinder s.now 2 (rechargeIfBoost x o s.now (outputsOff x o.cylinder s))

/-- An abort by short (R140). -/
def abortByShort (x : Bank) (o : Request) (s : State) : State := dropRequest .aborted o (abortBegin x o s)

/-- The abort of a bank's occupant by a short, when it has one. -/
def shortAborts (x : Bank) (occ : Option Request) (s : State) : State :=
  match occ with
  | none => s
  | some o => abortByShort x o s

/-- A SHORT_x assertion in RUN (R123): a locked bank is left as it is; an unlocked one is locked, its
occupant aborted, and BANK_SHORT raised. -/
def shortAsserted (x : Bank) (s : State) : State :=
  if (s.drive x).locked then s
  else
    let occ := occupant x s
    let s := shortAborts x occ (s.setDrive x { s.drive x with locked := true })
    raise .bankShort (.bank x) (some x) (bankShortDetail occ) s

/-- The level of SHORT_x replaced. -/
def State.setShort (s : State) (x : Bank) (level : Bool) : State :=
  match x with
  | .a => { s with pins := { s.pins with shortA := level } }
  | .b => { s with pins := { s.pins with shortB := level } }

/-- The part of the REVERSE order that reaches one driving request: abort, and removal as REVERSE
(R141). -/
def abortByReverse (o : Request) (s : State) : State :=
  dropRequest .reverse o (abortBegin o.bank o s)

/-- The REVERSE order (R101, R141): the driving requests are aborted, the others dropped, in queue order;
the auctions of the aborts' ends follow once every request has been reached. -/
def reverseOrder (s : State) : State :=
  let drivers := s.queue.requests.filter (fun r => driving r.state)
  let s := drivers.foldl (fun t r => abortByReverse r t) s
  let s := dropNonDriving .reverse s
  drivers.foldl (fun t r => auction r.bank t) s

/-- The soft reset's abort of a bank's occupant (R143): outputs off, the last end recorded, the
flush-pending flag cleared without FLUSH_DONE, ABORTED counted without a notice. -/
def abortBySoftReset (x : Bank) (s : State) : State :=
  match occupant x s with
  | none => s
  | some o =>
    let s := outputsOff x o.cylinder s
    let s := s.setCyl o.cylinder { s.cyl o.cylinder with lastEnd := some s.now, flushPending := false }
    removeRequest o (countDrop .aborted s)

/-- The end ENTER_STANDBY makes of a bank's occupant (R195, step 1): outputs off, the last end recorded,
the request dropped as ABORTED. No recharge and no auction. -/
def abortByStandby (x : Bank) (s : State) : State :=
  match occupant x s with
  | none => s
  | some o => dropRequest .aborted o (reportEnd o.cylinder s.now 2 (outputsOff x o.cylinder s))

/-! ### Meanings -/

/-- The meaning of PEAK_RISE. -/
def execPeakRise (x : Bank) (s : State) : Host.Outcome State Fault Refusal :=
  .next (if s.running then peakRises x s else s)

/-- The meaning of PEAK_TIMEOUT_ABORT. -/
def execPeakTimeoutAbort (x : Bank) (s : State) : Host.Outcome State Fault Refusal :=
  .next (if s.running then peakExpires x s else s)

/-- The meaning of DURATION_END. -/
def execDurationEnd (x : Bank) (s : State) : Host.Outcome State Fault Refusal :=
  .next (if s.running then durationEnds x s else s)

/-- The meaning of SHORT_ASSERTION. The level is taken in every mode; an assertion acts in RUN (R123). -/
def execShortAssertion (x : Bank) (asserted : Bool) (s : State) : Host.Outcome State Fault Refusal :=
  let s := s.setShort x asserted
  .next (if s.running && asserted then shortAsserted x s else s)

end Sys2Proof.Machine
end

