-- ==== Sys2Proof/Machine/Queue.lean ====
section
/-! DEFINITION. The Pulse Queue from planning to DUE (chapter 05): DUE and hand-over, shadow captures, the
work at a tooth event and at a cam edge, start timers, the depth mark, SET_LIMITS and READ_SHADOW. -/

namespace Sys2Proof.Machine

/-! ### DUE (R97, R98) -/

/-- A request made DUE at a time with a cause. Its lateness timer starts at the hand-over (R110). -/
def Request.madeDue (r : Request) (t : Time) (cause : DueCause) : Request :=
  { r with state := .due, dueTime := some t, dueCause := some cause, lateExpiry := none }

/-- What a shadow request leaves behind at DUE (R98). -/
def Request.capture (r : Request) : Capture :=
  { kind := r.kind, cycle := r.cycle, position := r.position, startAngle := r.startAngle
    scheduledStart := r.scheduledStart, dueTime := r.dueTime, dueCause := r.dueCause, duration := usOf r.duration }

/-- A shadow request at DUE writes its cylinder's capture and leaves the queue (R98). -/
def captureShadow (r : Request) (s : State) : State :=
  let s := removeRequest r s
  { s with queue := { s.queue with captures := s.queue.captures.set r.cylinder (some r.capture) } }

/-- A DUE request is handed on: captured when it is a shadow, else handed to the Drive Arbiter (R97). -/
def handOn (r : Request) (s : State) : State := if r.shadow then captureShadow r s else handOver r s

/-- One request becomes DUE and is handed on. -/
def becomeDue (r : Request) (t : Time) (cause : DueCause) (s : State) : State :=
  let due := r.madeDue t cause
  handOn due (moveRequest r due s)

/-- Several requests become DUE at one event, each a prediction miss. All are recorded DUE, then they are
handed on one at a time in queue order (R93, R95, R97; log 25). -/
def becomeDueTogether (rs : List Request) (t : Time) (s : State) : State :=
  let dues := rs.map (fun r => r.madeDue t .edge)
  let s := rs.foldl (fun u r => countMiss (moveRequest r (r.madeDue t .edge) u)) s
  (s.queue.requests.filter (fun r => dues.contains r)).foldl (fun u r => handOn r u) s

/-! ### A tooth event (R13, R95) -/

/-- What the tracker publishes at an accepted edge in FULL_SYNC or PHASE_HELD (R13), with the span of the
interval that ends at the edge. -/
structure ToothEvent where
  time : Time
  angle : Nat
  spanBefore : Nat
  spanNext : Nat
  predicted : Nat
deriving DecidableEq, Repr

/-- A request anchored on an edge: ARMED, its scheduled start computed from the edge's time, the offset and
P̂ (R34, R91, R95). A start equal to the edge's time leaves it ARMED at this event, its expiry an event of its
own at the same instant: the model's choice (log 31). -/
def Request.anchor (r : Request) (w : Wheel) (e : ToothEvent) : Request :=
  { r with state := .armed, scheduledStart := some (later e.time (startDelay w r.sortKey.toNat e.predicted)) }

/-- The key reduced by the length of the interval that ends at the edge, and a PLANNED request armed when its
start lies within the interval that follows (R95). -/
def Request.atTooth (r : Request) (w : Wheel) (e : ToothEvent) : Request :=
  let key := r.sortKey - ((e.spanBefore * ticksPerTooth w : Nat) : Int)
  match r.state with
  | .planned =>
    if key ≤ ((e.spanNext * ticksPerTooth w : Nat) : Int) then { r with sortKey := key }.anchor w e
    else { r with sortKey := key }
  | .armed => { r with sortKey := key }
  | .due => r
  | .boost => r
  | .hold => r

/-- An ARMED request whose start the engine has reached before its timer ran out: its reduced key is 0 or
less (R95). A request armed at this edge is not judged again by it. -/
def missedAt (w : Wheel) (e : ToothEvent) (r : Request) : Bool :=
  r.state == .armed && r.sortKey ≤ ((e.spanBefore * ticksPerTooth w : Nat) : Int)

/-- The queue's own work at a tooth event (R95). The expiry of a request armed here with a delay of 0 (R94) is not
part of it: it is a START_TIMER_EXPIRY of the same instant (log 31). -/
def queueTooth (e : ToothEvent) (s : State) : State :=
  let w := s.tracker.wheel.wheel
  let missed := (s.queue.requests.filter (missedAt w e)).map (fun r => r.atTooth w e)
  becomeDueTogether missed e.time (s.setRequests (s.queue.requests.map (fun r => r.atTooth w e)))

/-- The queue's own work at an accepted cam edge in CAM_ONLY: every ARMED request becomes DUE (R93). -/
def queueCam (t : Time) (s : State) : State :=
  becomeDueTogether (s.queue.requests.filter (fun r => r.state == .armed)) t s

/-! ### Start timers (R94) -/

/-- A start timer expires: the request becomes DUE at its scheduled start (R94). -/
def startTimerExpires (id : RequestId) (s : State) : State :=
  match findRequest id s with
  | none => s
  | some r =>
    match r.state, r.scheduledStart with
    | .armed, some t => if reached t s.now then becomeDue r t .expiry s else s
    | _, _ => s

/-! ### Insertion (R91, R104, R106) -/

/-- A candidate meets the bound of 16: it enters in its place in queue order and raises the depth mark, or is
dropped as QUEUE_FULL. -/
def enterQueue (r : Request) (s : State) : State :=
  if 16 ≤ s.queue.requests.length then noteDrop .queueFull r s
  else
    let rs := insertRequest r s.queue.requests
    { s with queue := { s.queue with requests := rs, depthMark := max s.queue.depthMark rs.length } }

/-! ### SET_LIMITS and READ_SHADOW -/

/-- The first field of SET_LIMITS that fails, in the order of R87. -/
def limitsFailure (p : List Byte) : Option Nat :=
  if u16 p 0 < 20 || 500 < u16 p 0 then some 1
  else if u16 p 2 < 500 || 10000 < u16 p 2 then some 2
  else if 2000 < u16 p 4 then some 3
  else if 2000 < u16 p 6 then some 4
  else if 2000 < u16 p 8 then some 5
  else if u16 p 10 < 20 || 400 < u16 p 10 then some 6
  else if u16 p 12 < 50 || 2000 < u16 p 12 then some 7
  else if u16 p 2 < u16 p 0 then some 8
  else none

/-- The limits a payload carries, in tu (R87). -/
def limitsOf (p : List Byte) : Limits :=
  { minPulse := 4 * u16 p 0, maxPulse := 4 * u16 p 2, minSeparation := 4 * u16 p 4, latenessMain := 4 * u16 p 6
    latenessOther := 4 * u16 p 8, peakTimeout := 4 * u16 p 10, recharge := 4 * u16 p 12 }

/-- The cylinders whose separation elapses at a SET_LIMITS: their point has moved to an instant already
reached (R112). `before` is the minimum separation that was in force. A point that was already reached under it
has elapsed and does not elapse again: the model's choice (log 28). -/
def separationsMoved (before : Nat) (s : State) : List Cylinder :=
  allCylinders.filter (fun c => !separatedUnder before c s && separated c s)

/-- SET_LIMITS (R87), with the separations it lets elapse (R112), in rising cylinder number (log 17). Their
auctions judge truncation as any auction does (R121), though R142 says that a SET_LIMITS ends no driving pulse:
the model's choice (log 29). -/
def ownSetLimits (p : List Byte) (s : State) : Answer :=
  withLength 14 p s fun s =>
    match limitsFailure p with
    | some field => refuse s .badValue [byte field]
    | none =>
      let before := s.queue.limits.minSeparation
      let s := { s with queue := { s.queue with limits := limitsOf p } }
      answerOk ((separationsMoved before s).foldl (fun u c => separationElapses c u) s) []

/-- A time of a capture in a reply; all ones when absent (R200). -/
def leTimeOpt (t : Option Time) : List Byte :=
  match t with
  | some t => leTime t
  | none => [0xFF, 0xFF, 0xFF, 0xFF]

/-- The payload of a capture in the reply to READ_SHADOW (R207). -/
def captureBytes (c : Capture) : List Byte :=
  [byte (kindCode c.kind), c.cycle, byte c.position.val] ++ le16 c.startAngle ++ leTimeOpt c.scheduledStart ++
    leTimeOpt c.dueTime ++ [byte ((c.dueCause.map dueCauseCode).getD 255)] ++ le16 c.duration

/-- READ_SHADOW (R99). -/
def ownReadShadow (p : List Byte) (s : State) : Answer :=
  withLength 1 p s fun s =>
    match cylOfNumber (u8 p 0) with
    | none => refuse s .badValue []
    | some c =>
      match s.queue.captures.get c with
      | some k => answerOk s (1#8 :: captureBytes k)
      | none => answerOk s (0#8 :: List.replicate 16 0xFF#8)

/-- The meaning of START_TIMER_EXPIRY. -/
def execStartTimerExpiry (id : RequestId) (s : State) : Host.Outcome State Fault Refusal :=
  .next (if s.running then startTimerExpires id s else s)

/-- The meaning of SET_LIMITS. -/
def execSetLimits (tag : Byte) (p : List Byte) (s : State) : Host.Outcome State Fault Refusal :=
  .next (carryOut tag p ownSetLimits s)

/-- The meaning of READ_SHADOW. -/
def execReadShadow (tag : Byte) (p : List Byte) (s : State) : Host.Outcome State Fault Refusal :=
  .next (carryOut tag p ownReadShadow s)

end Sys2Proof.Machine
end

