-- ==== Sys2Proof/Machine/Planner.lean ====
section
/-! DEFINITION. The Pulse Planner and the naming of positions (chapters 03 and 05): plan points and plan
teeth (R47, R48), planning at a plan tooth (R88 to R91) and at a cam edge (R92). -/

namespace Sys2Proof.Machine

/-! ### Naming (R47 to R50) -/

/-- The plan point of a TDC angle under a plan lead (R47). -/
def planPoint (lead tdc : Nat) : Nat := cycleMod ((tdc : Int) - (lead : Int))

/-- A plan point lies in the interval that ends at the event's edge (R48). -/
def planHere (w : Wheel) (e : ToothEvent) (point : Nat) : Bool :=
  let len := e.spanBefore * ticksPerTooth w
  inInterval (cycleMod ((e.angle : Int) - (len : Int))) len point

/-- The ring entry of a position, with the position; none beyond the ring. -/
def ringAt (s : State) (i : Nat) : Option (Position × RingEntry) :=
  (s.table.ring[i]?).map (fun e => (positionOf i, e))

/-- Naming sets the cylinder's cycle-planned flag (R48). -/
def nameCylinder (c : Cylinder) (s : State) : State := s.setCyl c { s.cyl c with cyclePlanned := true }

/-- Every cycle-planned flag is cleared (R49). -/
def clearPlanned (s : State) : State :=
  { s with table := { s.table with cyls := s.table.cyls.map (fun c => { c with cyclePlanned := false }) } }

/-! ### Building requests (R89, R90, R92) -/

/-- What one taking-up plans with: the ring entry, the shadow flag, and how a sort key is measured. -/
structure Planning where
  position : Position
  entry : RingEntry
  shadow : Bool
  /-- The reference angle of the sort key: the plan tooth's angle, or γ (R86). -/
  reference : Nat

/-- The request an entry becomes, its duration in tu given (R90, steps 1, 2, 4 to 6). -/
def Planning.request (g : Planning) (cycle : Byte) (limits : Limits) (kind : PulseKind) (start : Int) (tu : Nat) :
    Request :=
  let θ := cycleMod ((g.entry.tdc : Int) + start)
  { cylinder := g.entry.cylinder, position := g.position, bank := g.entry.bank, kind := kind, cycle := cycle
    startAngle := θ, sortKey := (angleDist g.reference θ : Nat), shadow := g.shadow, duration := tu
    lateness := if kind = .main then limits.latenessMain else limits.latenessOther
    state := .planned, scheduledStart := none, dueTime := none, dueCause := none, lateExpiry := none }

/-- One entry judged by the pulse limits (R90, step 3): dropped as TOO_SHORT, or a candidate, its duration
clamped to the maximum pulse with a count. The candidates found so far are carried along. -/
def buildEntry (g : Planning) (acc : State × List Request) (e : PlanEntry) : State × List Request :=
  let s := acc.1
  let limits := s.queue.limits
  let tu := 4 * e.duration
  let r := g.request s.tracker.cycle limits e.kind e.start tu
  if tu < limits.minPulse then (noteDrop .tooShort r s, acc.2)
  else if limits.maxPulse < tu then (countClamp s, acc.2 ++ [{ r with duration := limits.maxPulse }])
  else (s, acc.2 ++ [r])

/-- The entries built in stored order, before any insertion (R90). -/
def buildEntries (g : Planning) (es : List PlanEntry) (s : State) : State × List Request :=
  es.foldl (buildEntry g) (s, [])

/-- The candidates in class order (R91). -/
def inClassOrder (rs : List Request) : List Request :=
  classOrder.flatMap (fun k => rs.filter (fun r => r.kind == k))

/-! ### At a plan tooth (R88 to R91) -/

/-- STORE_PARITY at a plan read (R78). -/
def parityFault (c : Cylinder) (source failures : Nat) (s : State) : State :=
  raise .storeParity (.cylinder c) none (storeParityDetail source failures false) s

/-- The entry AGED running builds from a MAIN: its duration capped by the limp duration (R89). -/
def agedEntry (limp : PlanEntry) (e : PlanEntry) : PlanEntry := { e with duration := min e.duration limp.duration }

/-- Candidates inserted in class order, each ARMED or PLANNED by its key (R91). One whose start is the plan tooth's
own time is ARMED as well, and its timer expires as an event of its own (log 31). -/
def insertPlanned (e : ToothEvent) (rs : List Request) (s : State) : State :=
  let w := s.tracker.wheel.wheel
  let place (r : Request) : Request :=
    if r.sortKey ≤ ((e.spanNext * ticksPerTooth w : Nat) : Int) then r.anchor w e else r
  (inClassOrder rs).foldl (fun u r => enterQueue (place r) u) s

/-- The reading of a cylinder's plan and the building of its requests at a plan tooth (R89 to R91). -/
def planFrom (e : ToothEvent) (g : Planning) (s : State) : State :=
  let c := g.entry.cylinder
  let plan := (s.store.bank s.store.active).plans.get c
  let failures := parityFailures plan
  let build (es : List PlanEntry) : State :=
    let built := buildEntries g es s
    insertPlanned e built.2 built.1
  if failures ≠ 0 then parityFault c (bankCode s.store.active) failures s
  else if s.fueling.state = .aged then
    if !parityGood s.store.limp then parityFault c 2 1 s
    else build ((plan.filter (fun x => x.kind == .main)).map (agedEntry s.store.limp))
  else build plan

/-- The planner takes up a position named at a tooth (R88). -/
def takeUpAtTooth (e : ToothEvent) (p : Position) (entry : RingEntry) (s : State) : State :=
  let mode := effectiveMode (s.cyl entry.cylinder)
  if (s.fueling.state == .normal || s.fueling.state == .aged) && mode != .cut then
    planFrom e { position := p, entry := entry, shadow := mode == .shadow, reference := e.angle } s
  else s

/-- One position at a tooth event: named when its plan point lies in the interval and its cylinder is not
named yet under the cycle number, and then taken up (R48, R88). -/
def planPosition (e : ToothEvent) (i : Nat) (s : State) : State :=
  match ringAt s i, s.table.planPoints[i]? with
  | some (p, entry), some point =>
    if planHere s.tracker.wheel.wheel e point && !(s.cyl entry.cylinder).cyclePlanned then
      takeUpAtTooth e p entry (nameCylinder entry.cylinder s)
    else s
  | _, _ => s

/-- The indices of the eight firing positions, in increasing order. -/
def positionIndices : List Nat := [0, 1, 2, 3, 4, 5, 6, 7]

/-- A tooth event: the queue's own work, then the named positions in increasing order (R13, R48, R95). -/
def toothEvent (e : ToothEvent) (s : State) : State :=
  positionIndices.foldl (fun u i => planPosition e i u) (queueTooth e s)

/-! ### At a cam edge (R50, R92) -/

/-- A limp candidate's insertion (R92): ARMED from the cam edge, or, with an offset of 0, DUE at once. An offset
above 0 whose delay rounds to 0 is ARMED, and its timer expires as an event of its own (log 31). -/
def admitLimp (t : Time) (period : Nat) (r : Request) (s : State) : State :=
  let d := r.sortKey.toNat
  let armed := { r with state := .armed, scheduledStart := some (later t (camDelay d period)) }
  if d ≠ 0 then enterQueue armed s
  else if 16 ≤ s.queue.requests.length then noteDrop .queueFull r s
  else becomeDue { armed with scheduledStart := some t } t .immediate (enterQueue { armed with scheduledStart := some t } s)

/-- The limp plan's requests for one position (R92). -/
def planLimp (t : Time) (period : Nat) (g : Planning) (s : State) : State :=
  if !parityGood s.store.limp then parityFault g.entry.cylinder 2 1 s
  else
    let built := buildEntries g [s.store.limp] s
    built.2.foldl (fun u r => admitLimp t period r u) built.1

/-- The planner takes up one position of the ring at a cam edge (R50, R92). -/
def planLimpPosition (t : Time) (period i : Nat) (s : State) : State :=
  match ringAt s i with
  | none => s
  | some (p, entry) =>
    let s := nameCylinder entry.cylinder s
    let mode := effectiveMode (s.cyl entry.cylinder)
    if s.fueling.state == .limp && mode != .cut then
      planLimp t period
        { position := p, entry := entry, shadow := mode == .shadow, reference := s.tracker.cam.gamma } s
    else s

/-- A cam edge handed to the queue and the planner in CAM_ONLY (R22, R92, R93). -/
def camEvent (t : Time) (period : Nat) (s : State) : State :=
  positionIndices.foldl (fun u i => planLimpPosition t period i u) (queueCam t s)

end Sys2Proof.Machine
end

