-- ==== Sys2Proof/Machine/Store.lean ====
section
/-! DEFINITION. The Schedule Store (chapter 04): the entry checks (R63), staging writes (R65, R66), the swap
(R69 to R73), the plan age and the origin event (R14, R71, R75), the limp plan (R80) and READ_PLAN (R67). -/

namespace Sys2Proof.Machine

/-- The Schedule Store's part of the state replaced. -/
def State.setStore (s : State) (t : Store) : State := { s with store := t }

/-! ### The swap and the origin event -/

/-- A swap takes effect, with its tag, at once or at an origin event: the five steps of R70 in their order
(log 16). -/
def swapTakesEffect (tag : Byte) (atOnce : Bool) (s : State) : State :=
  let x := otherBank s.store.active
  let t := s.store.setBank x { s.store.bank x with tag := tag }
  let s := handAge (s.setStore { t with active := x, age := 0 })
  let s := s.setStore { s.store with pendingSwap := none }
  raise .swapDone (.bank x) none (swapDoneDetail tag atOnce) s

/-- The store's work at an origin event: a pending swap takes effect, else the age increments to at most 255
and is handed over (R71, R75, R76). -/
def storeOrigin (s : State) : State :=
  match s.store.pendingSwap with
  | some tag => swapTakesEffect tag false s
  | none => handAge (s.setStore { s.store with age := satInc 255 s.store.age })

/-- An origin event: the cycle number advances, every cycle-planned flag is cleared, and the event reaches
the Schedule Store and through it the Fueling Supervisor (R14, R49, R71). -/
def originEvent (s : State) : State :=
  storeOrigin (clearPlanned { s with tracker := { s.tracker with cycle := s.tracker.cycle + 1 } })

/-! ### Entries in payloads (R204) and the entry checks (R63) -/

/-- The kind code, start angle and duration of the entry whose 5 bytes begin at an offset. -/
structure RawEntry where
  kind : Nat
  start : Int
  duration : Nat
deriving DecidableEq, Repr

/-- The entry at an offset. -/
def rawEntryAt (p : List Byte) (i : Nat) : RawEntry :=
  { kind := u8 p i, start := s16 p (i + 1), duration := u16 p (i + 3) }

/-- The `n` entries from offset `i` on. -/
def rawEntries (p : List Byte) (i : Nat) : Nat → List RawEntry
  | 0 => []
  | n + 1 => rawEntryAt p i :: rawEntries p (i + 5) n

/-- The index of the first member that fails a test. -/
def firstFailing {α : Type} (ok : α → Bool) : Nat → List α → Option Nat
  | _, [] => none
  | i, x :: xs => if ok x then firstFailing ok (i + 1) xs else some i

/-- The later index of the first two neighbours that fail a test. -/
def firstFailingPair {α : Type} (ok : α → α → Bool) : Nat → List α → Option Nat
  | i, x :: y :: rest => if ok x y then firstFailingPair ok (i + 1) (y :: rest) else some (i + 1)
  | _, _ => none

/-- The start range of check 5 (R62). -/
def startInRange (lead : Nat) (start : Int) : Bool := (480 : Int) - (lead : Int) ≤ start && start ≤ 2880

/-- Checks 2 to 6 over the entries, in order: the failing check and the entry's index (R63). -/
def entryFailure (lead : Nat) (es : List RawEntry) : Option (Nat × Nat) :=
  match firstFailing (fun e => (kindOfCode e.kind).isSome) 0 es with
  | some i => some (2, i)
  | none =>
    match firstFailingPair (fun x y => decide (x.kind < y.kind)) 0 es with
    | some i => some (3, i)
    | none =>
      match firstFailingPair (fun x y => decide (x.start < y.start)) 0 es with
      | some i => some (4, i)
      | none =>
        match firstFailing (fun e => startInRange lead e.start) 0 es with
        | some i => some (5, i)
        | none =>
          match firstFailing (fun e => decide (e.duration ≤ 10000)) 0 es with
          | some i => some (6, i)
          | none => none

/-- The stored form of checked entries, each with a fresh parity bit (R77). -/
def storedEntries (es : List RawEntry) : List PlanEntry :=
  es.filterMap (fun e => (kindOfCode e.kind).map (fun k => freshEntry k e.start e.duration))

/-- Check 1 of WRITE_PLAN: cylinder, count and payload length (R63). -/
def planCheckOne (p : List Byte) : Bool :=
  (cylOfNumber (u8 p 0)).isSome && u8 p 1 ≤ 5 && p.length == 2 + 5 * u8 p 1

/-- The failing check and entry index of a WRITE_PLAN payload (R63). -/
def planFailure (lead : Nat) (p : List Byte) : Option (Nat × Nat) :=
  if planCheckOne p then entryFailure lead (rawEntries p 2 (u8 p 1)) else some (1, 255)

/-- The failing check and entry index of a SET_LIMP payload (R63, R80). -/
def limpFailure (lead : Nat) (p : List Byte) : Option (Nat × Nat) :=
  if p.length ≠ 4 then some (1, 255)
  else if !startInRange lead (s16 p 0) then some (5, 0)
  else if 10000 < u16 p 2 then some (6, 0)
  else none

/-! ### The commands -/

/-- The staging plan of a cylinder replaced (R64). -/
def Store.stage (t : Store) (c : Cylinder) (es : List PlanEntry) : Store :=
  let x := otherBank t.active
  t.setBank x { t.bank x with plans := (t.bank x).plans.set c es }

/-- WRITE_PLAN (R65). -/
def ownWritePlan (p : List Byte) (s : State) : Answer :=
  if s.store.pendingSwap.isSome then refuse s .stagingLocked []
  else
    match planFailure s.table.planLead p, cylOfNumber (u8 p 0) with
    | some (check, index), _ => refuse s .badValue [byte check, byte index]
    | none, none => refuse s .badValue [1, 0xFF]
    | none, some c =>
      answerOk (s.setStore (s.store.stage c (storedEntries (rawEntries p 2 (u8 p 1))))) []

/-- The copy of one cylinder's active plan into the staging bank; a plan with a mismatch is copied empty,
with STORE_PARITY (R66, R79). -/
def copyPlan (c : Cylinder) (s : State) : State :=
  let plan := (s.store.bank s.store.active).plans.get c
  let failures := parityFailures plan
  if failures = 0 then
    s.setStore (s.store.stage c (plan.map (fun e => freshEntry e.kind e.start e.duration)))
  else
    raise .storeParity (.cylinder c) none (storeParityDetail (bankCode s.store.active) failures true)
      (s.setStore (s.store.stage c []))

/-- The set of cylinders whose active plan holds a mismatch (R66). -/
def copiedEmpty (s : State) : Nat :=
  (allCylinders.map (fun c =>
    bit (parityFailures ((s.store.bank s.store.active).plans.get c) != 0) * 2 ^ (cylNumber c - 1))).sum

/-- COPY_ACTIVE (R66): cylinder by cylinder in rising number. -/
def ownCopyActive (p : List Byte) (s : State) : Answer :=
  withLength 0 p s fun s =>
    if s.store.pendingSwap.isSome then refuse s .stagingLocked []
    else answerOk (allCylinders.foldl (fun u c => copyPlan c u) s) [byte (copiedEmpty s)]

/-- SWAP (R69). The reply: form and cycle number (R207). -/
def ownSwap (p : List Byte) (s : State) : Answer :=
  withLength 1 p s fun s =>
    let tag := p.getD 0 0
    if s.store.pendingSwap.isSome then refuse s .swapPending []
    else if syncWaits s.tracker.sync then answerOk (swapTakesEffect tag true s) [1, s.tracker.cycle]
    else answerOk (s.setStore { s.store with pendingSwap := some tag }) [0, 0xFF]

/-- CANCEL_SWAP (R72). -/
def ownCancelSwap (p : List Byte) (s : State) : Answer :=
  withLength 0 p s fun s =>
    match s.store.pendingSwap with
    | none => refuse s .noSwap []
    | some tag => answerOk (s.setStore { s.store with pendingSwap := none }) [tag]

/-- One entry of the READ_PLAN reply: a pulse entry and its parity verdict (R204). -/
def planRecord (e : PlanEntry) : List Byte :=
  [byte (kindCode e.kind)] ++ le16s e.start ++ le16 e.duration ++ [byte (bit (!parityGood e))]

/-- The READ_PLAN reply for a tag and a list of entries (R204). -/
def planReply (s : State) (tag : Byte) (es : List PlanEntry) : List Byte :=
  [byte (bankCode s.store.active + 2 * bit s.store.pendingSwap.isSome), s.store.pendingSwap.getD 0, tag,
    byte es.length] ++ es.flatMap planRecord

/-- READ_PLAN (R67). -/
def ownReadPlan (p : List Byte) (s : State) : Answer :=
  withLength 2 p s fun s =>
    if u8 p 0 = 2 then answerOk s (planReply s 0 [s.store.limp])
    else
      match bankOfCode (u8 p 0), cylOfNumber (u8 p 1) with
      | some x, some c => answerOk s (planReply s (s.store.bank x).tag ((s.store.bank x).plans.get c))
      | _, _ => refuse s .badValue []

/-- SET_LIMP (R80). -/
def ownSetLimp (p : List Byte) (s : State) : Answer :=
  match limpFailure s.table.planLead p with
  | some (check, index) => refuse s .badValue [byte check, byte index]
  | none => answerOk (s.setStore { s.store with limp := freshEntry .main (s16 p 0) (u16 p 2) }) []

/-- The meaning of WRITE_PLAN. -/
def execWritePlan (tag : Byte) (p : List Byte) (s : State) : Host.Outcome State Fault Refusal :=
  .next (carryOut tag p ownWritePlan s)

/-- The meaning of COPY_ACTIVE. -/
def execCopyActive (tag : Byte) (p : List Byte) (s : State) : Host.Outcome State Fault Refusal :=
  .next (carryOut tag p ownCopyActive s)

/-- The meaning of SWAP. -/
def execSwap (tag : Byte) (p : List Byte) (s : State) : Host.Outcome State Fault Refusal :=
  .next (carryOut tag p ownSwap s)

/-- The meaning of CANCEL_SWAP. -/
def execCancelSwap (tag : Byte) (p : List Byte) (s : State) : Host.Outcome State Fault Refusal :=
  .next (carryOut tag p ownCancelSwap s)

/-- The meaning of READ_PLAN. -/
def execReadPlan (tag : Byte) (p : List Byte) (s : State) : Host.Outcome State Fault Refusal :=
  .next (carryOut tag p ownReadPlan s)

/-- The meaning of SET_LIMP. -/
def execSetLimp (tag : Byte) (p : List Byte) (s : State) : Host.Outcome State Fault Refusal :=
  .next (carryOut tag p ownSetLimp s)

end Sys2Proof.Machine
end

