-- ==== Sys2Proof/Machine/Table.lean ====
section
/-! DEFINITION. The commands of the Cylinder Table (chapter 03): SET_RING with its checks (R45, R46),
SET_CYL_MODE (R51), CLEAR_MASK (R55), FLUSH_CYL (R57). -/

namespace Sys2Proof.Machine

/-! ### SET_RING -/

/-- The cylinder number, TDC angle and bank code of the ring entry whose 4 bytes begin at an offset
(R204). -/
structure RawRingEntry where
  cylinder : Nat
  tdc : Nat
  bank : Nat
deriving DecidableEq, Repr

/-- The `n` ring entries from offset `i` on. -/
def rawRing (p : List Byte) (i : Nat) : Nat → List RawRingEntry
  | 0 => []
  | n + 1 => { cylinder := u8 p i, tdc := u16 p (i + 1), bank := u8 p (i + 3) } :: rawRing p (i + 4) n

/-- A ring entry in range (R45, second step); none otherwise. -/
def ringEntryOf (e : RawRingEntry) : Option RingEntry :=
  match cylOfNumber e.cylinder, bankOfCode e.bank with
  | some c, some x => if e.tdc ≤ 11519 then some { cylinder := c, tdc := e.tdc, bank := x } else none
  | _, _ => none

/-- The ring of a payload when every value is in range and the length is right; none otherwise (R45, second
step). -/
def ringOf (p : List Byte) : Option (List RingEntry) :=
  let z := u8 p 0
  if 1 ≤ z && z ≤ 8 && p.length == 4 + 4 * z && 960 ≤ u16 p 1 && u16 p 1 ≤ 2880 && 1 ≤ u8 p 3 && u8 p 3 ≤ 15 then
    (rawRing p 4 z).mapM ringEntryOf
  else none

/-- Check 1: the later position of the first two entries that share a cylinder. `seen` holds the cylinders
before position `i`. -/
def repeatedCylinder : Nat → List Cylinder → List RingEntry → Option Nat
  | _, _, [] => none
  | i, seen, e :: rest => if seen.contains e.cylinder then some i else repeatedCylinder (i + 1) (e.cylinder :: seen) rest

/-- The first position whose following TDC, still within the list, fails a test. -/
def failingGap (ok : Nat → Nat → Bool) : Nat → List RingEntry → Option Nat
  | i, x :: y :: rest => if ok x.tdc y.tdc then failingGap ok (i + 1) (y :: rest) else some i
  | _, _ => none

/-- Check 3's wrap TDC gap: TDC of position 0 plus 11 520 less TDC of the last position (11 520 when
Z = 1). -/
def wrapGap (ring : List RingEntry) : Nat :=
  match ring.head?, ring.getLast? with
  | some first, some last => first.tdc + 11520 - last.tdc
  | _, _ => 11520

/-- Check 4: every stored entry starts at or after 480 − (new plan lead). -/
def storedStartsFit (lead : Nat) (t : Store) : Bool :=
  let fits (e : PlanEntry) : Bool := decide ((480 : Int) - (lead : Int) ≤ e.start)
  allCylinders.all (fun c => (t.planA.plans.get c).all fits && (t.planB.plans.get c).all fits) && fits t.limp

/-- The first ring check that fails, with the firing position at which it does (R45). -/
def ringFailure (lead : Nat) (ring : List RingEntry) (t : Store) : Option (Nat × Nat) :=
  match repeatedCylinder 0 [] ring with
  | some i => some (1, i)
  | none =>
    match failingGap (fun x y => x < y) 0 ring with
    | some i => some (2, i)
    | none =>
      match failingGap (fun x y => x + 480 ≤ y) 0 ring with
      | some i => some (3, i)
      | none =>
        if wrapGap ring < 480 then some (3, ring.length - 1)
        else if !storedStartsFit lead t then some (4, 255)
        else none

/-- The table an accepted SET_RING leaves (R46). -/
def CylinderTable.withRing (t : CylinderTable) (ring : List RingEntry) (lead threshold : Nat) : CylinderTable :=
  { t with ring := ring, planLead := lead, maskThreshold := threshold
           planPoints := ring.map (fun e => planPoint lead e.tdc) }

/-- SET_RING (R45, R46). -/
def ownSetRing (p : List Byte) (s : State) : Answer :=
  if s.tracker.sync ≠ .stopped then refuse s .engineTurning []
  else
    match ringOf p with
    | none => refuse s .badValue []
    | some ring =>
      match ringFailure (u16 p 1) ring s.store with
      | some (check, position) => refuse s .ringInvalid [byte check, byte position]
      | none => answerOk { s with table := s.table.withRing ring (u16 p 1) (u8 p 3) } []

/-! ### Cylinder commands -/

/-- SET_CYL_MODE (R51). -/
def ownSetCylMode (p : List Byte) (s : State) : Answer :=
  withLength 2 p s fun s =>
    match cylOfNumber (u8 p 0), modeOfCode (u8 p 1) with
    | some c, some m => answerOk (s.setCyl c { s.cyl c with hostMode := m }) []
    | _, _ => refuse s .badValue []

/-- CLEAR_MASK (R55). -/
def ownClearMask (p : List Byte) (s : State) : Answer :=
  withLength 1 p s fun s =>
    match cylOfNumber (u8 p 0) with
    | none => refuse s .badValue []
    | some c => answerOk (s.setCyl c { s.cyl c with masked := false, failures := 0 }) [byte (bit (s.cyl c).masked)]

/-- The requests a flush reaches: the cylinder's PLANNED, ARMED and DUE requests (R57). -/
def flushReaches (c : Cylinder) (r : Request) : Bool := r.cylinder == c && !driving r.state

/-- FLUSH_CYL (R57). -/
def ownFlushCyl (p : List Byte) (s : State) : Answer :=
  withLength 1 p s fun s =>
    match cylOfNumber (u8 p 0) with
    | none => refuse s .badValue []
    | some c =>
      if (s.cyl c).flushPending then refuse s .flushPending []
      else
        let count := (s.queue.requests.filter (flushReaches c)).length
        let t := dropWhere .flushed (flushReaches c) s
        if cylDriving c t then ⟨t.setCyl c { t.cyl c with flushPending := true }, .accepted, [byte count]⟩
        else answerOk t [byte count]

/-- The meaning of SET_RING. -/
def execSetRing (tag : Byte) (p : List Byte) (s : State) : Host.Outcome State Fault Refusal :=
  .next (carryOut tag p ownSetRing s)

/-- The meaning of SET_CYL_MODE. -/
def execSetCylMode (tag : Byte) (p : List Byte) (s : State) : Host.Outcome State Fault Refusal :=
  .next (carryOut tag p ownSetCylMode s)

/-- The meaning of CLEAR_MASK. -/
def execClearMask (tag : Byte) (p : List Byte) (s : State) : Host.Outcome State Fault Refusal :=
  .next (carryOut tag p ownClearMask s)

/-- The meaning of FLUSH_CYL. -/
def execFlushCyl (tag : Byte) (p : List Byte) (s : State) : Host.Outcome State Fault Refusal :=
  .next (carryOut tag p ownFlushCyl s)

end Sys2Proof.Machine
end

