-- ==== Sys2Proof/Machine/Tracker.lean ====
section
/-! DEFINITION. The Angle Tracker (chapter 01): crank edges, gap and tooth counting, window closes, cam
edges, the phase flip, stalls, cam-only running, reverse edges, SET_WHEEL, SET_CAM and READ_ANGLE. With it
the start of a warm-up (R198), since a crank edge can be a wake source (R197). -/

namespace Sys2Proof.Machine

/-- The tracker replaced. -/
def State.setTracker (s : State) (t : Tracker) : State := { s with tracker := t }

/-! ### Waking (R196 to R198) -/

/-- A warm-up begins: the timebase is set to 0 and held, the monitor counts from 0, and the source is
recorded (R198). -/
def beginWarmup (source : Option WakeSource) (s : State) : State :=
  { s with control := { s.control with
      mode := .warmup, timebase := 0, refCount := 0
      warmupLeft := warmupTu s.control.warmupSel, wakeSource := source } }

/-- A source taken in STANDBY: enabled, it moves the mode to WARMUP and is recorded (R197). -/
def wakeBy (enabled : Bool) (source : WakeSource) (s : State) : State :=
  if s.control.mode == .standby && enabled then beginWarmup (some source) s else s

/-! ### Parts of edges -/

/-- The crank stall timer restarts (R8, R21). -/
def Tracker.stallFrom (t : Tracker) (now : Time) : Tracker := { t with crankTimer := some now }

/-- An interval recorded: periods, prediction and speed (R8, R30, R32, R39). -/
def Tracker.recorded (t : Tracker) (raw span : Nat) : Tracker :=
  let p := normalPeriod raw span
  { t with history := t.history.record t.wheel.accel p, speed := crankSpeed t.wheel.wheel p }

/-- The conflict run set to 0 (R20; log 13). -/
def CamHistory.noConflict (h : CamHistory) : CamHistory := { h with conflictRun := 0 }

/-- The window flag set and both runs at 0 (R17, R18, R23). -/
def CamHistory.confirmed (h : CamHistory) : CamHistory :=
  { h with windowFlag := true, missingRun := 0, conflictRun := 0 }

/-- SYNC_LOST with its drops: 0 GAP_ERROR, 1 STALL, 2 CAM_STALL (R12, R21, R24, R101; the order is log 15). -/
def loseSync (reason : Nat) (s : State) : State :=
  raise .syncLost .absent none (half reason) (dropNonDriving .syncLost s)

/-- The effects of every entry to STOPPED: the running state cleared, then speed 0 and the sync state handed
on (R21, R155). -/
def enterStopped (s : State) : State :=
  handSync (handSpeed (s.setTracker { s.tracker with
    sync := .stopped, toothIndex := none, revolution := none, lastEdge := none, history := .empty, speed := 0
    crankTimer := none, camTimer := none, camHistory := .cleared }))

/-! ### A tooth of FULL_SYNC or PHASE_HELD (R13, R14, R19) -/

/-- κ, the angle of the window close (R19). -/
def windowCloseAngle (c : CamSettings) : Nat := (c.gamma + c.halfWidth + 1) % 11520

/-- The window close falls in the interval of a span that begins at the previous edge's angle (R19, R29). -/
def closesHere (t : Tracker) (previous span : Nat) : Bool :=
  inInterval previous (span * ticksPerTooth t.wheel.wheel) (windowCloseAngle t.cam)

/-- The window close reads and clears the flag. A clear flag in FULL_SYNC counts a missing window, and the
second enters PHASE_HELD (R19). -/
def Tracker.closeWindow (t : Tracker) : Tracker :=
  if t.camHistory.windowFlag then { t with camHistory := { t.camHistory with windowFlag := false } }
  else if t.sync = .fullSync then
    if 1 ≤ t.camHistory.missingRun then
      { t with sync := .phaseHeld, camHistory := { t.camHistory with missingRun := 2 } }
    else { t with camHistory := { t.camHistory with missingRun := t.camHistory.missingRun + 1 } }
  else t

/-- CAM_MISSING raised, and PHASE_HELD handed on (R19, R155). -/
def noteCamMissing (s : State) : State :=
  handSync (raise .camMissing .absent none (half s.tracker.camHistory.missingRun) s)

/-- The hand-overs of one edge in their order: the speed, the origin event when the edge is one, the tooth
event (R13, R14). -/
def publishTooth (now : Time) (α index span : Nat) (s : State) : State :=
  let s := handSpeed s
  let s := if α = 0 then originEvent s else s
  toothEvent { time := now, angle := α, spanBefore := span
               spanNext := spanAfter s.tracker.wheel.wheel index
               predicted := s.tracker.history.predicted.getD 0 } s

/-- A tooth of FULL_SYNC or PHASE_HELD: the window close, then the hand-overs. Where the close raises
CAM_MISSING, which comes first is free (log 11). `previous` is the previous edge's cycle angle. -/
def publishEdge (now : Time) (previous α index span : Nat) (s : State) : State :=
  if closesHere s.tracker previous span then
    let t := s.tracker.closeWindow
    if t.sync = s.tracker.sync then publishTooth now α index span (s.setTracker t)
    else if Config.camMissingFirst then publishTooth now α index span (noteCamMissing (s.setTracker t))
    else noteCamMissing (publishTooth now α index span (s.setTracker t))
  else publishTooth now α index span s

/-! ### Accepted crank edges (R8 to R12, R23) -/

/-- The first accepted edge in STOPPED enters SEEKING (R9). -/
def startSeeking (now : Time) (s : State) : State :=
  handSync (s.setTracker ({ s.tracker with
    sync := .seeking, lastEdge := some ⟨now, none⟩, camHistory := s.tracker.camHistory.noConflict }.stallFrom now))

/-- An accepted edge in SEEKING (R8, R10). -/
def seekingEdge (now : Time) (s : State) : State :=
  let t := s.tracker
  match t.lastEdge with
  | none => s.setTracker ({ t with lastEdge := some ⟨now, none⟩ }.stallFrom now)
  | some e =>
    let w := t.wheel.wheel
    let raw := elapsed e.time now
    if gapTest w raw t.history.current then
      handSync (handSpeed (s.setTracker (({ t with
        sync := .crankSync, toothIndex := some 0, revolution := some .a
        lastEdge := some ⟨now, some 0⟩ }.recorded raw (missing w + 1)).stallFrom now)))
    else
      handSpeed (s.setTracker (({ t with lastEdge := some ⟨now, none⟩ }.recorded raw 1).stallFrom now))

/-- A gap error: the tracker enters SEEKING with a reduced history. From FULL_SYNC and PHASE_HELD the
non-driving requests are dropped and SYNC_LOST is raised (R12). -/
def gapErrorAt (now : Time) (s : State) : State :=
  let from_ := s.tracker.sync
  let s := countGapError (s.setTracker ({ s.tracker with
    sync := .seeking, toothIndex := none, revolution := none, lastEdge := some ⟨now, none⟩
    history := s.tracker.history.reduce, camHistory := s.tracker.camHistory.noConflict }.stallFrom now))
  handSync (if from_ = .crankSync then s else loseSync 0 s)

/-- An accepted edge in CRANK_SYNC, FULL_SYNC or PHASE_HELD: counted, or a gap error (R11, R12). -/
def countedEdge (now : Time) (s : State) : State :=
  let t := s.tracker
  let w := t.wheel.wheel
  let last := t.lastEdge.getD ⟨now, none⟩
  let raw := elapsed last.time now
  let i := t.toothIndex.getD 0
  let gap := decide (i = lastTooth w)
  if gapTest w raw t.history.current = gap then
    let j := if gap then 0 else i + 1
    let rev := if gap then otherRev (t.revolution.getD .a) else t.revolution.getD .a
    let span := if gap then missing w + 1 else 1
    let α := revBase rev + j * ticksPerTooth w
    let s := s.setTracker (({ t with
      toothIndex := some j, revolution := some rev, lastEdge := some ⟨now, some α⟩ }.recorded raw span).stallFrom now)
    if t.sync = .crankSync then handSpeed s
    else publishEdge now (last.angle.getD 0) α j span s
  else gapErrorAt now s

/-- The revolution of the background seek's tooth 0, from the cam-based estimate (R23, R37). -/
def seekRevolution (estimate : Nat) : Revolution := if estimate < 2880 || 8640 ≤ estimate then .a else .b

/-- The angle at which the gap that ends at an angle begins: the last real tooth's, M + 1 pitches before
(R11, R28). -/
def gapStart (w : Wheel) (α : Nat) : Nat := cycleMod ((α : Int) - ((missing w + 1) * ticksPerTooth w : Nat))

/-- The background seek has found the gap: the tracker returns to FULL_SYNC, and the edge is handled as its
tooth 0 (R23). Where κ lies in the gap the edge is the window close too (R19), and it finds the flag that R23
has just set (log 12). -/
def seekFound (now : Time) (raw : Nat) (s : State) : State :=
  let t := s.tracker
  let span := missing t.wheel.wheel + 1
  let rev := seekRevolution ((t.camAngle now).getD 0)
  let α := revBase rev
  let s := s.setTracker (({ t with
    sync := .fullSync, toothIndex := some 0, revolution := some rev, lastEdge := some ⟨now, some α⟩
    history := t.seek.history, seek := .empty, camHistory := t.camHistory.confirmed }.recorded raw span).stallFrom now)
  let s := handSync (raise .syncGained .absent none (half (syncCode .camOnly)) (dropNonDriving .syncLost s))
  publishEdge now (gapStart t.wheel.wheel α) α 0 span s

/-- An accepted crank edge in CAM_ONLY feeds the background seek (R23). -/
def backgroundEdge (now : Time) (s : State) : State :=
  let t := s.tracker
  match t.seek.lastEdge with
  | none => s.setTracker ({ t with seek := { t.seek with lastEdge := some now } }.stallFrom now)
  | some last =>
    let w := t.wheel.wheel
    let raw := elapsed last now
    if gapTest w raw t.seek.history.current then seekFound now raw s
    else
      let h := t.seek.history.record t.wheel.accel (normalPeriod raw 1)
      s.setTracker ({ t with seek := { lastEdge := some now, history := h } }.stallFrom now)

/-- An accepted active edge, by sync state (R8). -/
def acceptedEdge (now : Time) (s : State) : State :=
  match s.tracker.sync with
  | .stopped => startSeeking now s
  | .seeking => seekingEdge now s
  | .crankSync => countedEdge now s
  | .fullSync => countedEdge now s
  | .phaseHeld => countedEdge now s
  | .camOnly => backgroundEdge now s

/-- The last accepted edge and the prediction the glitch filter uses: the background seek's own in CAM_ONLY,
none in STOPPED (R7). -/
def filterBasis (t : Tracker) : Option Time × Option Nat :=
  match t.sync with
  | .stopped => (none, none)
  | .camOnly => (t.seek.lastEdge, t.seek.history.predicted)
  | .seeking => (t.lastEdge.map (·.time), t.history.predicted)
  | .crankSync => (t.lastEdge.map (·.time), t.history.predicted)
  | .fullSync => (t.lastEdge.map (·.time), t.history.predicted)
  | .phaseHeld => (t.lastEdge.map (·.time), t.history.predicted)

/-- The pulse an active edge begins: measured when the edge is accepted and the sensor is DIRECTIONAL (R25;
log 10). -/
def beginPulse (accepted : Bool) (now : Time) (s : State) : State :=
  s.setTracker { s.tracker with
    pulseStart := if accepted && s.tracker.wheel.sensor == .directional then some now else none }

/-- An active crank edge in RUN: filtered, and handled when accepted (R7). -/
def activeEdge (now : Time) (s : State) : State :=
  let basis := filterBasis s.tracker
  if filterAccepts basis.1 basis.2 now then acceptedEdge now (beginPulse true now s)
  else countGlitch (beginPulse false now s)

/-! ### Reverse edges (R25, R26) -/

/-- A reverse edge in any sync state other than STOPPED (R26). -/
def reverseEdge (now : Time) (s : State) : State :=
  let from_ := s.tracker.sync
  let s := reverseOrder s
  let s := s.setTracker ({ s.tracker with
    sync := .seeking, lastEdge := none, history := .empty, toothIndex := none, revolution := none, seek := .empty
    camHistory := s.tracker.camHistory.noConflict }.stallFrom now)
  handSync (raise .reverse .absent none (half (syncCode from_)) s)

/-- The trailing transition of a crank pulse: the width is judged (R25). -/
def trailingEdge (now : Time) (s : State) : State :=
  match s.tracker.pulseStart with
  | none => s
  | some t =>
    let s := s.setTracker { s.tracker with pulseStart := none }
    if s.tracker.wheel.dirThreshold ≤ elapsed t now && s.tracker.sync != .stopped then reverseEdge now s else s

/-! ### Cam edges (R15 to R20, R22) -/

/-- The update of the cam history at a cam edge outside CAM_ONLY (R15, R40). -/
def Tracker.camUpdate (t : Tracker) (now : Time) : Tracker :=
  let period := match t.camHistory.lastEdge with
    | some last => some (camPeriod last now)
    | none => t.camHistory.period
  { t with camHistory := { t.camHistory with lastEdge := some now, period := period }, camTimer := some now }

/-- `θ` lies in the correct window (R16). -/
def inCorrectWindow (c : CamSettings) (θ : Nat) : Bool :=
  inRange ((c.gamma : Int) - c.halfWidth) ((c.gamma : Int) + c.halfWidth) θ

/-- `θ` lies in the opposite window (R16). -/
def inOppositeWindow (c : CamSettings) (θ : Nat) : Bool :=
  inRange ((c.gamma : Int) + 5760 - c.halfWidth) ((c.gamma : Int) + 5760 + c.halfWidth) θ

/-- `θ` lies in the window on the revolution angle (R17). -/
def inRevolutionWindow (c : CamSettings) (θ : Nat) : Bool :=
  inRevRange ((c.gamma % 5760 : Nat) - (c.halfWidth : Int)) ((c.gamma % 5760 : Nat) + (c.halfWidth : Int)) (θ % 5760 : Nat)

/-- The revolution exchanged, and 5760 added to the cycle angle of the last accepted edge (R17, R20). -/
def Tracker.exchanged (t : Tracker) : Tracker :=
  { t with revolution := t.revolution.map otherRev
           lastEdge := t.lastEdge.map (fun e => { e with angle := e.angle.map (fun α => (α + 5760) % 11520) }) }

/-- SYNC_GAINED with the state left, and the new state handed on (R17, R18). -/
def gainSync (left : SyncState) (s : State) : State :=
  handSync (raise .syncGained .absent none (half (syncCode left)) s)

/-- A cam edge in CRANK_SYNC at a cam angle (R17). -/
def resolvePhase (θ : Nat) (s : State) : State :=
  let t := s.tracker
  if inRevolutionWindow t.cam θ then
    let t := if inCorrectWindow t.cam θ then t else t.exchanged
    gainSync .crankSync (s.setTracker { t with sync := .fullSync, camHistory := t.camHistory.confirmed })
  else countCamNoise s

/-- A confirmation: a cam edge in the correct window (R18). -/
def confirmCam (s : State) : State :=
  let t := { s.tracker with camHistory := s.tracker.camHistory.confirmed }
  if t.sync = .phaseHeld then gainSync .phaseHeld (s.setTracker { t with sync := .fullSync })
  else s.setTracker t

/-- The phase flip, but for the confirmation that follows within the same edge (R20). -/
def flipPhase (s : State) : State :=
  let t := s.tracker.exchanged
  let s := dropNonDriving .phaseFlip (s.setTracker { t with camHistory := t.camHistory.noConflict })
  raise .phaseFlip .absent none (half (revolutionCode (t.revolution.getD .a))) s

/-- A conflict: a cam edge in the opposite window (R20). -/
def conflictCam (s : State) : State :=
  let s := countCamConflict s
  if 1 ≤ s.tracker.camHistory.conflictRun then confirmCam (flipPhase s)
  else s.setTracker { s.tracker with camHistory :=
    { s.tracker.camHistory with conflictRun := s.tracker.camHistory.conflictRun + 1 } }

/-- A cam edge in FULL_SYNC or PHASE_HELD at a cam angle (R16). -/
def classifyCam (θ : Nat) (s : State) : State :=
  if inCorrectWindow s.tracker.cam θ then confirmCam s
  else if inOppositeWindow s.tracker.cam θ then conflictCam s
  else countCamNoise s

/-- An accepted cam edge in CAM_ONLY: C, speed, origin event, and the cam edge handed to the planner (R22). -/
def camOnlyAccepted (now : Time) (period : Nat) (s : State) : State :=
  let t := s.tracker
  let s := handSpeed (s.setTracker { t with
    camHistory := { t.camHistory with lastEdge := some now, period := some period }
    camTimer := some now, speed := camSpeed period })
  camEvent now period (originEvent s)

/-- A cam edge in CAM_ONLY: noise when it comes less than C div 2 after the last, else accepted (R22). -/
def camOnlyEdge (now : Time) (s : State) : State :=
  let h := s.tracker.camHistory
  match h.lastEdge with
  | some last =>
    if elapsed last now < h.period.getD 0 / 2 then countCamNoise s
    else camOnlyAccepted now (camPeriod last now) s
  | none => camOnlyAccepted now (h.period.getD 1) s

/-- The classification of a cam edge by its cam angle, where the tracker has one (R16). -/
def placeCam (now : Time) (classify : Nat → State → State) (s : State) : State :=
  match s.tracker.crankAngle now with
  | some θ => classify θ s
  | none => s

/-- A cam edge in RUN (R15, R16). -/
def camEdgeAt (now : Time) (s : State) : State :=
  match s.tracker.sync with
  | .camOnly => camOnlyEdge now s
  | .stopped => s.setTracker (s.tracker.camUpdate now)
  | .seeking => s.setTracker (s.tracker.camUpdate now)
  | .crankSync => placeCam now resolvePhase (s.setTracker (s.tracker.camUpdate now))
  | .fullSync => placeCam now classifyCam (s.setTracker (s.tracker.camUpdate now))
  | .phaseHeld => placeCam now classifyCam (s.setTracker (s.tracker.camUpdate now))

/-! ### Stalls (R21, R24) -/

/-- A stall timer has run for its time. -/
def stallDue (timer : Option Time) (limit : Nat) (now : Time) : Bool :=
  match timer with
  | some t => limit ≤ elapsed t now
  | none => false

/-- The cam period when it is valid and the last cam edge is younger than the cam stall time (R21). -/
def freshCam (t : Tracker) (now : Time) : Option Nat :=
  match t.camHistory.lastEdge, t.camHistory.period with
  | some last, some c => if elapsed last now < t.cam.stallTime then some c else none
  | _, _ => none

/-- The entry to CAM_ONLY with a valid cam period (R21). The crank side is left as it was (log 18). -/
def enterCamOnly (period : Nat) (s : State) : State :=
  let s := s.setTracker { s.tracker with
    sync := .camOnly, seek := .empty, crankTimer := none, speed := camSpeed period }
  let s := raise .crankLost .absent none (half (camSpeed period)) (dropNonDriving .syncLost s)
  handSync (handSpeed s)

/-- A crank stall in FULL_SYNC or PHASE_HELD (R21). -/
def stallInSync (now : Time) (s : State) : State :=
  match freshCam s.tracker now with
  | some c => enterCamOnly c s
  | none => enterStopped (loseSync 1 s)

/-- The crank stall timer expires (R21). -/
def crankStalls (now : Time) (s : State) : State :=
  match s.tracker.sync with
  | .seeking => enterStopped s
  | .crankSync => enterStopped s
  | .fullSync => stallInSync now s
  | .phaseHeld => stallInSync now s
  | .camOnly => s.setTracker { s.tracker with seek := .empty, crankTimer := none }
  | .stopped => s.setTracker { s.tracker with crankTimer := none }

/-- The cam stall timer expires (R15, R24). -/
def camStalls (s : State) : State :=
  if s.tracker.sync = .camOnly then enterStopped (loseSync 2 s)
  else s.setTracker { s.tracker with
    camTimer := none, camHistory := { s.tracker.camHistory with lastEdge := none, period := none } }

/-! ### Commands -/

/-- The wheel settings of a payload, when every value is in range (R4). -/
def wheelOf (p : List Byte) : Option WheelSettings :=
  match wheelOfCode (u8 p 0), edgeOfCode (u8 p 1), sensorOfCode (u8 p 2) with
  | some w, some e, some k =>
    if 20 ≤ u16 p 3 && u16 p 3 ≤ 500 && 50 ≤ u16 p 5 && u16 p 5 ≤ 1000 && u8 p 7 ≤ 4 then
      some { wheel := w, activeEdge := e, sensor := k, dirThreshold := 4 * u16 p 3
             stallTime := 4000 * u16 p 5, accel := u8 p 7 }
    else none
  | _, _, _ => none

/-- SET_WHEEL (R4). -/
def ownSetWheel (p : List Byte) (s : State) : Answer :=
  withLength 8 p s fun s =>
    if s.tracker.sync ≠ .stopped then refuse s .engineTurning []
    else
      match wheelOf p with
      | none => refuse s .badValue []
      | some w => answerOk (s.setTracker { s.tracker with wheel := w }) []

/-- The cam settings of a payload, when every value is in range (R5). -/
def camOf (p : List Byte) : Option CamSettings :=
  match edgeOfCode (u8 p 6) with
  | some e =>
    if u16 p 0 ≤ 11519 && 32 ≤ u16 p 2 && u16 p 2 ≤ 960 && 500 ≤ u16 p 4 && u16 p 4 ≤ 4000 then
      some { gamma := u16 p 0, halfWidth := u16 p 2, stallTime := 4000 * u16 p 4, polarity := e }
    else none
  | none => none

/-- SET_CAM (R5). The cam history is cleared as on entry to STOPPED, the cam stall timer with it (log 14). -/
def ownSetCam (p : List Byte) (s : State) : Answer :=
  withLength 7 p s fun s =>
    if s.tracker.sync ≠ .stopped then refuse s .engineTurning []
    else
      match camOf p with
      | none => refuse s .badValue []
      | some c => answerOk (s.setTracker { s.tracker with cam := c, camHistory := .cleared, camTimer := none }) []

/-- READ_ANGLE (R27, R206). -/
def ownReadAngle (p : List Byte) (s : State) : Answer :=
  withLength 0 p s fun s =>
    answerOk s ([byte (syncCode s.tracker.sync), s.tracker.cycle] ++ le16 s.tracker.speed ++ leTime s.now ++
      le16 ((s.tracker.angleAt s.now).getD 65535))

/-! ### Meanings -/

/-- The meaning of CRANK_ACTIVE_EDGE: in RUN an edge for the tracker, in STANDBY a wake source (R6, R197). -/
def execCrankActiveEdge (s : State) : Host.Outcome State Fault Refusal :=
  .next (if s.running then activeEdge s.now s else wakeBy s.control.wakeEnables.crankEdge .crankEdge s)

/-- The meaning of CRANK_TRAILING_EDGE: in RUN the end of a pulse, in STANDBY a wake source (R25, R197). -/
def execCrankTrailingEdge (s : State) : Host.Outcome State Fault Refusal :=
  .next (if s.running then trailingEdge s.now s else wakeBy s.control.wakeEnables.crankEdge .crankEdge s)

/-- The meaning of CRANK_STALL. -/
def execCrankStall (s : State) : Host.Outcome State Fault Refusal :=
  .next (if s.running && stallDue s.tracker.crankTimer s.tracker.wheel.stallTime s.now then crankStalls s.now s
    else s)

/-- The meaning of CAM_EDGE. -/
def execCamEdge (s : State) : Host.Outcome State Fault Refusal :=
  .next (if s.running then camEdgeAt s.now s else s)

/-- The meaning of CAM_STALL. -/
def execCamStall (s : State) : Host.Outcome State Fault Refusal :=
  .next (if s.running && stallDue s.tracker.camTimer s.tracker.cam.stallTime s.now then camStalls s else s)

/-- The meaning of SET_WHEEL. -/
def execSetWheel (tag : Byte) (p : List Byte) (s : State) : Host.Outcome State Fault Refusal :=
  .next (carryOut tag p ownSetWheel s)

/-- The meaning of SET_CAM. -/
def execSetCam (tag : Byte) (p : List Byte) (s : State) : Host.Outcome State Fault Refusal :=
  .next (carryOut tag p ownSetCam s)

/-- The meaning of READ_ANGLE. -/
def execReadAngle (tag : Byte) (p : List Byte) (s : State) : Host.Outcome State Fault Refusal :=
  .next (carryOut tag p ownReadAngle s)

end Sys2Proof.Machine
end

