-- ==== Sys2Proof/Machine/Notices.lean ====
section
/-! DEFINITION. The commands of the Notice Unit (chapter 10): READ_MARKS, READ_COUNTERS, READ_FAULT,
CLEAR_FAULT, FETCH_NOTICES and SET_NOTICE_MASK, with the layouts of their replies (R205, R207). -/

namespace Sys2Proof.Machine

/-- The Notice Unit's part of the state replaced. -/
def State.setNotices (s : State) (u : NoticeUnit) : State := { s with notices := u }

/-- A subject byte: a cylinder's number, a bank's code, 0xFF when absent (R205). -/
def subjectByte : Subject → Byte
  | .absent => 0xFF
  | .cylinder c => byte (cylNumber c)
  | .bank x => byte (bankCode x)

/-- A notice record, 9 bytes (R205). -/
def noticeBytes (n : Notice) : List Byte :=
  [byte (noticeCode n.kind), subjectByte n.subject, n.cycle] ++ le16 n.detail.toNat ++ leTime n.timestamp

/-- READ_MARKS (R187). -/
def ownReadMarks (p : List Byte) (s : State) : Answer :=
  withLength 0 p s fun s =>
    let depth := s.queue.requests.length
    let reply := [byte s.queue.depthMark, byte depth] ++ le16 s.driveA.waitMark ++ le16 s.driveB.waitMark
    answerOk { s with
      queue := { s.queue with depthMark := depth }
      driveA := { s.driveA with waitMark := 0 }
      driveB := { s.driveB with waitMark := 0 } } reply

/-- The counters of a group in reply order (R186). -/
def groupBytes (u : NoticeUnit) (group : Nat) : List Byte :=
  match group with
  | 0 => u.kindCounts.toList.flatMap le16
  | 1 => u.dropCounts.toList.flatMap le16
  | _ => le16 u.glitch ++ le16 u.gapError ++ le16 u.camNoise ++ le16 u.camConflict ++ le16 u.predictionMiss ++
      le16 u.clamp ++ le32 u.grants.toNat ++ [byte u.overflow]

/-- The counters of a group at 0 (R186). -/
def clearGroup (u : NoticeUnit) (group : Nat) : NoticeUnit :=
  match group with
  | 0 => { u with kindCounts := Vector.replicate 19 0 }
  | 1 => { u with dropCounts := Vector.replicate 9 0 }
  | _ => { u with glitch := 0, gapError := 0, camNoise := 0, camConflict := 0, predictionMiss := 0, clamp := 0
                  grants := 0, overflow := 0 }

/-- READ_COUNTERS (R186). -/
def ownReadCounters (p : List Byte) (s : State) : Answer :=
  withLength 2 p s fun s =>
    let group := u8 p 0
    if 2 < group || 1 < u8 p 1 then refuse s .badValue []
    else
      let reply := groupBytes s.notices group
      if u8 p 1 = 1 then answerOk (s.setNotices (clearGroup s.notices group)) reply else answerOk s reply

/-- The fields of a first-fault detail in the reply to READ_FAULT (R205). -/
def faultBytes (f : FirstFault) : List Byte :=
  [byte (noticeCode f.kind), subjectByte f.subject, byte ((f.bank.map bankCode).getD 255), f.cycle] ++
    le16 f.detail.toNat ++ le16 (f.angle.getD 65535) ++ leTime f.timestamp

/-- READ_FAULT (R189). -/
def ownReadFault (p : List Byte) (s : State) : Answer :=
  withLength 0 p s fun s =>
    match s.notices.first with
    | some f => answerOk s ([s.notices.summary, 1] ++ faultBytes f)
    | none => answerOk s ([s.notices.summary, 0] ++ List.replicate 12 0xFF#8)

/-- The fault record after a set of kinds has been removed (R189). -/
def clearFaults (u : NoticeUnit) (set : Byte) : NoticeUnit :=
  let summary := u.summary &&& ~~~set
  { u with summary := summary, first := if summary = 0#8 then none else u.first }

/-- CLEAR_FAULT (R189). -/
def ownClearFault (p : List Byte) (s : State) : Answer :=
  withLength 1 p s fun s =>
    let u := clearFaults s.notices (p.getD 0 0)
    answerOk (s.setNotices u) [u.summary]

/-- The notice queue without its `n` oldest; ALERT_N is released when none is left (R182, R183). -/
def removeOldest (u : NoticeUnit) (n : Nat) : NoticeUnit :=
  { u with queue := u.queue.drop n, alert := !(u.queue.drop n).isEmpty }

/-- FETCH_NOTICES (R183). -/
def ownFetchNotices (p : List Byte) (s : State) : Answer :=
  withLength 1 p s fun s =>
    let n := u8 p 0
    if n < 1 || 6 < n then refuse s .badValue []
    else
      let taken := s.notices.queue.take n
      answerOk (s.setNotices (removeOldest s.notices n)) (byte taken.length :: taken.flatMap noticeBytes)

/-- SET_NOTICE_MASK (R184): one 24-bit field. -/
def ownSetNoticeMask (p : List Byte) (s : State) : Answer :=
  withLength 3 p s fun s =>
    let field := u8 p 0 + 256 * u8 p 1 + 65536 * u8 p 2
    answerOk (s.setNotices { s.notices with mask := maskAfter s.notices.mask field }) []

/-- The meaning of READ_MARKS. -/
def execReadMarks (tag : Byte) (p : List Byte) (s : State) : Host.Outcome State Fault Refusal :=
  .next (carryOut tag p ownReadMarks s)

/-- The meaning of READ_COUNTERS. -/
def execReadCounters (tag : Byte) (p : List Byte) (s : State) : Host.Outcome State Fault Refusal :=
  .next (carryOut tag p ownReadCounters s)

/-- The meaning of READ_FAULT. -/
def execReadFault (tag : Byte) (p : List Byte) (s : State) : Host.Outcome State Fault Refusal :=
  .next (carryOut tag p ownReadFault s)

/-- The meaning of CLEAR_FAULT. -/
def execClearFault (tag : Byte) (p : List Byte) (s : State) : Host.Outcome State Fault Refusal :=
  .next (carryOut tag p ownClearFault s)

/-- The meaning of FETCH_NOTICES. -/
def execFetchNotices (tag : Byte) (p : List Byte) (s : State) : Host.Outcome State Fault Refusal :=
  .next (carryOut tag p ownFetchNotices s)

/-- The meaning of SET_NOTICE_MASK. -/
def execSetNoticeMask (tag : Byte) (p : List Byte) (s : State) : Host.Outcome State Fault Refusal :=
  .next (carryOut tag p ownSetNoticeMask s)

end Sys2Proof.Machine
end

