-- ==== Sys2Proof/Machine/Control.lean ====
section
/-! DEFINITION. Timebase and Mode Control (chapter 11) and the resets: the pin reset (R144, R190, R199), the
warm-up's end (R198), the wake values of every block, the clock monitor (R193), standby (R195, R196), SET_WAKE
(R194) and SOFT_RESET (R176). -/

namespace Sys2Proof.Machine

/-- Timebase and Mode Control's part of the state replaced. -/
def State.setControl (s : State) (c : Control) : State := { s with control := c }

/-! ### Pin reset -/

/-- The part held in reset: every block at its pin-reset values, the notice queue empty, ALERT_N released, a
transaction abandoned. The input pins keep their levels (R175, R190, R199). -/
def heldInReset (s : State) : State :=
  { State.reset with
    notices := { State.reset.notices with queue := [], kindCounts := Vector.replicate 19 0, alert := false }
    pins := { s.pins with resetLow := true }
    freeIndex := s.freeIndex
    pending := s.pending }

/-- The rise of RESET_N, or power-up (log 9): the warm-up of 2 ms begins and RESET is raised with POWER_ON
(R190, R199). -/
def leaveReset (s : State) : State :=
  let s := heldInReset s
  raise .reset .absent none 0 { s with pins := { s.pins with resetLow := false } }

/-! ### The values after a wake, and after a soft reset -/

/-- The tracker after a soft reset and after a wake: the settings and the cycle number are kept (R3). -/
def Tracker.restarted (t : Tracker) : Tracker :=
  { Tracker.reset with wheel := t.wheel, cam := t.cam, cycle := t.cycle }

/-- A drive bank with no occupant: charge READY, outputs off, no pulse record (R108, R129). -/
def DriveBank.idle (d : DriveBank) : DriveBank :=
  { d with charge := .ready, boostOut := false, holdOut := false, pulse := none }

/-- Every block at the value its table gives after a wake (R3, R44, R61, R83, R108, R148, R163, R178, R191),
but for the clock-cut flag, which follows the clock source. -/
def wakeValues (s : State) : State :=
  let cyls := s.table.cyls.map (fun c => { c with flushPending := false, lastEnd := none, cyclePlanned := false })
  { s with
    link := { s.link with rx := [], rxCount := 0, turnaround := none }
    tracker := s.tracker.restarted
    table := { s.table with cyls := cyls }
    queue := { s.queue with requests := [] }
    driveA := s.driveA.idle
    driveB := s.driveB.idle
    sel := .all false
    fueling := { s.fueling with overspeed := false, lastSpeed := 0, lastSync := .stopped, state := .disarmed } }

/-- The clock source judged at the end of warm-up, with the clock-cut flag set to match (R198, step 1). -/
def judgeClock (s : State) : State :=
  let source : ClockSource := if s.control.refCount = 1024 then .reference else .fallback
  { s with
    control := { s.control with clock := source }
    fueling := { s.fueling with clockCut := source == .fallback } }

/-- WAKE after a standby or a bounce (R198, step 3). -/
def noteWake (source : Option WakeSource) (s : State) : State :=
  match source with
  | some w => raise .wake .absent none (half (wakeSourceCode w)) s
  | none => s

/-- CLOCK_LOSS with detail 1 when the source judged is FALLBACK (R198, step 4). -/
def noteNoReference (s : State) : State :=
  if s.control.clock = .fallback then raise .clockLoss .absent none 1 s else s

/-- The end of a warm-up, in the order of R198. -/
def endWarmup (s : State) : State :=
  let source := s.control.wakeSource
  let s := judgeClock (if source.isSome then wakeValues s else s)
  let s := s.setControl { s.control with mode := .run, timebase := 0, warmupLeft := 0, wakeSource := none }
  judgeLock .b (judgeLock .a (noteNoReference (noteWake source s)))

/-! ### The clock monitor (R193) -/

/-- A cycle is good when its length lies from 0.75 to 1.25 of the nominal 62.5 ns (R193). -/
def goodCycle (picoseconds : Nat) : Bool := 46875 ≤ picoseconds && picoseconds ≤ 78125

/-- The monitor works in RUN and in WARMUP, and not while RESET_N is low (R193, R199; log 24). -/
def monitored (s : State) : Bool := s.control.mode != .standby && !s.pins.resetLow

/-- A good cycle counts; on FALLBACK in RUN a count of 1024 returns the source to REFERENCE (R193). -/
def countGood (s : State) : State :=
  let n := min 1024 (s.control.refCount + 1)
  let s := s.setControl { s.control with refCount := n }
  if s.running && s.control.clock == .fallback && n == 1024 then
    handClock (s.setControl { s.control with clock := .reference })
  else s

/-- A bad cycle sets the count to 0; on REFERENCE in RUN the source becomes FALLBACK, with CLOCK_LOSS and the
hand-over to the Fueling Supervisor, in that order (R193). -/
def countBad (s : State) : State :=
  let s := s.setControl { s.control with refCount := 0 }
  if s.running && s.control.clock == .reference then
    handClock (raise .clockLoss .absent none 0 (s.setControl { s.control with clock := .fallback }))
  else s

/-! ### Standby (R195, R196) -/

/-- Some cylinder's flush-pending flag is set. -/
def anyFlushPending (s : State) : Bool := allCylinders.any (fun c => (s.cyl c).flushPending)

/-- The set of conditions of ENTER_STANDBY that fail (R195, R207). -/
def standbyFailures (s : State) : Nat :=
  bit (s.fueling.state != .disarmed) + 2 * bit (s.tracker.sync != .stopped) + 4 * bit (anyFlushPending s)

/-- The WAKE source is enabled and WAKE is high: an accepted ENTER_STANDBY bounces (R196). -/
def bounces (s : State) : Bool := s.control.wakeEnables.wakeLevel && s.pins.wake

/-- What the link becomes as RUN is left: the receive buffer emptied, the turnaround idle (R177). -/
def quietLink (s : State) : State := { s with link := { s.link with rx := [], rxCount := 0, turnaround := none } }

/-- ENTER_STANDBY (R195, R196). -/
def ownEnterStandby (p : List Byte) (s : State) : Answer :=
  withLength 0 p s fun s =>
    if standbyFailures s ≠ 0 then refuse s .wrongState [byte (standbyFailures s)]
    else
      let s := quietLink (abortByStandby .b (abortByStandby .a s))
      if bounces s then answerOk (beginWarmup (some .bounce) s) [1]
      else answerOk (s.setControl { s.control with mode := .standby }) [0]

/-- SET_WAKE (R194). -/
def ownSetWake (p : List Byte) (s : State) : Answer :=
  withLength 2 p s fun s =>
    let set := u8 p 0
    match warmupOfCode (u8 p 1) with
    | none => refuse s .badValue []
    | some w =>
      if set = 0 || 7 < set then refuse s .badValue []
      else
        let enables : WakeEnables :=
          { crankEdge := set % 2 == 1, chipSelect := set / 2 % 2 == 1, wakeLevel := set / 4 % 2 == 1 }
        answerOk (s.setControl { s.control with wakeEnables := enables, warmupSel := w }) []

/-! ### SOFT_RESET (R176) -/

/-- Every block at its soft-reset value, the occupants having been aborted (R3, R44, R61, R83, R105, R108,
R148, R163, R190). -/
def softValues (s : State) : State :=
  let cyls := s.table.cyls.map (fun c => { c with failures := 0, flushPending := false, cyclePlanned := false })
  { s with
    link := { s.link with rx := [], rxCount := 0, turnaround := some (later s.now 16) }
    tracker := s.tracker.restarted
    table := { s.table with cyls := cyls }
    store := { s.store with pendingSwap := none, age := 0 }
    queue := { s.queue with requests := [] }
    driveA := { s.driveA.idle with locked := false, tree := .lower }
    driveB := { s.driveB.idle with locked := false, tree := .lower }
    sel := .all false
    fueling := { s.fueling with
      armed := false, hostCut := false, overspeed := false, clockCut := s.control.clock == .fallback
      expired := false, lastSpeed := 0, lastSync := .stopped, lastAge := 0, state := .disarmed }
    notices := { s.notices with queue := [], alert := false } }

/-- SOFT_RESET: the aborts, the soft-reset values, RESET with detail SOFT, then the locks judged from SHORT_x
(R126, R143, R176, R190). Its reply is FRESH. -/
def ownSoftReset (p : List Byte) (s : State) : Answer :=
  withLength 0 p s fun s =>
    let s := softValues (abortBySoftReset .b (abortBySoftReset .a s))
    ⟨judgeLock .b (judgeLock .a (raise .reset .absent none 1 s)), .fresh, []⟩

/-! ### Meanings -/

/-- The meaning of RESET_N_LOW. -/
def execResetNLow (s : State) : Host.Outcome State Fault Refusal := .next (heldInReset s)

/-- The meaning of RESET_N_RISE. -/
def execResetNRise (s : State) : Host.Outcome State Fault Refusal := .next (leaveReset s)

/-- The meaning of WARMUP_END (log 6). -/
def execWarmupEnd (s : State) : Host.Outcome State Fault Refusal :=
  .next (if s.control.mode == .warmup && !s.pins.resetLow then endWarmup s else s)

/-- The meaning of WAKE_LEVEL_RISE: the level is taken, and a rise is a wake source in STANDBY (R197). -/
def execWakeLevelRise (high : Bool) (s : State) : Host.Outcome State Fault Refusal :=
  .next (wakeBy (high && s.control.wakeEnables.wakeLevel) .wakeLevel { s with pins := { s.pins with wake := high } })

/-- The meaning of REFCLK_CYCLE. -/
def execRefclkCycle (picoseconds : Nat) (s : State) : Host.Outcome State Fault Refusal :=
  .next (if monitored s then (if goodCycle picoseconds then countGood s else countBad s) else s)

/-- The meaning of REFCLK_MISSING. -/
def execRefclkMissing (s : State) : Host.Outcome State Fault Refusal :=
  .next (if monitored s then countBad s else s)

/-- The meaning of ENTER_STANDBY. -/
def execEnterStandby (tag : Byte) (p : List Byte) (s : State) : Host.Outcome State Fault Refusal :=
  .next (carryOut tag p ownEnterStandby s)

/-- The meaning of SET_WAKE. -/
def execSetWake (tag : Byte) (p : List Byte) (s : State) : Host.Outcome State Fault Refusal :=
  .next (carryOut tag p ownSetWake s)

/-- The meaning of SOFT_RESET. -/
def execSoftReset (tag : Byte) (p : List Byte) (s : State) : Host.Outcome State Fault Refusal :=
  .next (carryOut tag p ownSoftReset s)

end Sys2Proof.Machine
end

