-- ==== Sys2Proof/Machine/FramePort.lean ====
section
/-! DEFINITION. The Frame Port (chapter 09): the fall and the release of CS_N, the turnaround timer, reply
frames, NOP, IDENT and READ_STATUS (R174, R206), and the hand-over of a good frame to its owner (R168). -/

namespace Sys2Proof.Machine

/-- The Frame Port's part of the state replaced. -/
def State.setLink (s : State) (l : FramePort) : State := { s with link := l }

/-! ### Reply frames (R169, R202) -/

/-- A reply frame: status, tag, notice count, length, payload, CRC. -/
def replyFrame (status : Status) (tag : Byte) (count : Nat) (payload : List Byte) : List Byte :=
  let covered := [statusCode status, tag, byte count, byte payload.length] ++ payload
  covered ++ [crc covered]

/-- The number of notices a reply carries (R169). -/
def noticeCount (s : State) : Nat := s.notices.queue.length

/-- A byte MISO sends in a transaction: one of the frame, 0x00 after its CRC (R162). -/
def misoByte (s : State) (i : Nat) : Option Byte := s.link.miso.map (fun f => f.getD i 0)

/-- A bit MISO sends in a transaction: each byte goes most significant bit first (R162). -/
def misoBit (s : State) (i : Nat) : Option Bool := (misoByte s (i / 8)).map (fun b => b.getMsbD (i % 8))

/-! ### The fall of CS_N (R164) -/

/-- A transaction opened in a case, with the frame it sends. -/
def openTransaction (t : Transaction) (miso : Option (List Byte)) (s : State) : State :=
  s.setLink { s.link with transaction := some t, miso := miso, rx := [], rxCount := 0 }

/-- The judgment at the fall of CS_N, by mode and turnaround timer (R164). In STANDBY the fall is a wake
source (R197). -/
def fallJudged (s : State) : State :=
  match s.control.mode with
  | .standby => wakeBy s.control.wakeEnables.chipSelect .chipSelect (openTransaction .unanswered none s)
  | .warmup => openTransaction .notReady (some (replyFrame .notReady 0 0 [])) s
  | .run =>
    if s.link.turnaround.isSome then
      openTransaction .busy (some (replyFrame .busyLink s.link.lastTag (noticeCount s) [])) s
    else
      let r := s.link.reply
      openTransaction .carried (some (replyFrame r.status r.tag (noticeCount s) r.payload)) s

/-! ### The release of CS_N (R165, R166) -/

/-- One byte received: up to 64 are kept, and the count saturates at 255 (R163). -/
def FramePort.receive (l : FramePort) (b : Byte) : FramePort :=
  { l with rx := if l.rx.length < 64 then l.rx ++ [b] else l.rx, rxCount := satInc 255 l.rxCount }

/-- The whole bytes of the bits sampled, received in order (R162). -/
def FramePort.receiveBits (l : FramePort) (bits : List Bool) : FramePort := (bytesOfBits bits).foldl FramePort.receive l

/-- The transaction closed: MISO is no longer driven, the receive buffer is emptied. -/
def closeTransaction (s : State) : State :=
  s.setLink { s.link with transaction := none, miso := none, rx := [], rxCount := 0 }

/-- The turnaround timer starts, 16 tu from now (R165). -/
def startTurnaround (s : State) : State := s.setLink { s.link with turnaround := some (later s.now 16) }

/-- A reply of the Frame Port's own becomes the pending reply (R170). -/
def setReply (status : Status) (tag : Byte) (payload : List Byte) (s : State) : State :=
  s.setLink { s.link with reply := { status := status, tag := tag, payload := payload } }

/-! ### Commands of the Frame Port (R174) -/

/-- NOP (R174). -/
def ownNop (p : List Byte) (s : State) : Answer := withLength 0 p s fun s => answerOk s []

/-- IDENT: part code 0x0860 and revision 0x01 (R174). -/
def ownIdent (p : List Byte) (s : State) : Answer := withLength 0 p s fun s => answerOk s (le16 0x0860 ++ [0x01#8])

/-- The firing position of a cylinder, when it stands in the ring (R60). -/
def firingPosition (s : State) (c : Cylinder) : Option Nat := s.table.ring.findIdx? (fun e => e.cylinder == c)

/-- The three status bytes of a cylinder (R60, R206). -/
def cylBytes (s : State) (c : Cylinder) : List Byte :=
  let k := s.cyl c
  [byte ((firingPosition s c).getD 255),
   byte (modeCode k.hostMode + 4 * modeCode (effectiveMode k) + 16 * bit k.masked + 32 * bit k.flushPending),
   byte k.failures]

/-- The Schedule Store's part (R82, R206). -/
def storeBytes (t : Store) : List Byte :=
  [byte (bankCode t.active + 2 * bit t.pendingSwap.isSome), t.planA.tag, t.planB.tag, t.pendingSwap.getD 0, byte t.age] ++
    le16s t.limp.start ++ le16 t.limp.duration

/-- How many requests stand in a state. -/
def stateCount (q : PulseQueue) (st : RequestState) : Nat := (q.requests.filter (fun r => r.state == st)).length

/-- The limits in µs, in SET_LIMITS order (R107). -/
def limitBytes (l : Limits) : List Byte :=
  [l.minPulse, l.maxPulse, l.minSeparation, l.latenessMain, l.latenessOther, l.peakTimeout, l.recharge].flatMap
    (fun n => le16 (usOf n))

/-- The Pulse Queue's part (R107, R206). -/
def queueBytes (q : PulseQueue) : List Byte :=
  [byte q.requests.length, byte (stateCount q .planned), byte (stateCount q .armed), byte (stateCount q .due),
   byte (stateCount q .boost), byte (stateCount q .hold), byte (q.requests.filter (·.shadow)).length] ++
    limitBytes q.limits

/-- The charge code: READY, CHARGING in boost, CHARGING in recharge (R206). -/
def chargeCode : Charge → Nat
  | .ready => 0
  | .charging none => 1
  | .charging (some _) => 2

/-- The recharge remaining in µs, 0 unless recharging (R127, R206). -/
def rechargeLeft (d : DriveBank) (now : Time) : Nat :=
  match d.charge with
  | .charging (some t) => usOf (elapsed now t)
  | _ => 0

/-- The occupant's three bytes: cylinder, kind and phase, cycle number; 0xFF when none (R206). -/
def occupantBytes (o : Option Request) : List Byte :=
  match o with
  | some r => [byte (cylNumber r.cylinder), byte (kindCode r.kind + 8 * bit (r.state == .hold)), r.cycle]
  | none => [0xFF, 0xFF, 0xFF]

/-- A drive bank's part (R127, R206). -/
def driveBytes (s : State) (x : Bank) : List Byte :=
  let d := s.drive x
  [byte (bit d.locked + 2 * bit (s.shortLevel x) + 4 * chargeCode d.charge)] ++ le16 (rechargeLeft d s.now) ++
    occupantBytes (occupant x s) ++ [byte (waiting x s).length, byte (treeCode d.tree)]

/-- The Fueling Supervisor's part (R160, R206). -/
def fuelingBytes (f : Fueling) : List Byte :=
  [byte (fuelCode f.state), byte (fuelingFlags f), byte (cutReasons f), byte f.holdLimit, byte f.cutLimit] ++
    le16 f.overspeedLimit ++ le16 f.hysteresis ++ [byte (bit f.limpOn)]

/-- Timebase and Mode Control's part (R199, R206). -/
def controlBytes (s : State) : List Byte :=
  [byte (clockCode s.control.clock)] ++ le16 s.control.refCount ++
    [byte (wakeCode s.control.wakeEnables), byte (warmupCode s.control.warmupSel), byte (bit s.pins.wake)]

/-- The 92 bytes of READ_STATUS (R174, R206). -/
def statusBytes (s : State) : List Byte :=
  [byte (syncCode s.tracker.sync), s.tracker.cycle] ++
  ([byte s.table.ring.length] ++ le16 s.table.planLead ++ [byte s.table.maskThreshold]) ++
  allCylinders.flatMap (cylBytes s) ++ storeBytes s.store ++ queueBytes s.queue ++
  driveBytes s .a ++ driveBytes s .b ++ fuelingBytes s.fueling ++ controlBytes s

/-- READ_STATUS (R174). -/
def ownReadStatus (p : List Byte) (s : State) : Answer := withLength 0 p s fun s => answerOk s (statusBytes s)

/-! ### The hand-over to the owner (R168, R173) -/

/-- What the owner of a command does. -/
def owner : Command → List Byte → State → Answer
  | .nop => ownNop
  | .ident => ownIdent
  | .setWheel => ownSetWheel
  | .setCam => ownSetCam
  | .setRing => ownSetRing
  | .setLimits => ownSetLimits
  | .setFueling => ownSetFueling
  | .setLimp => ownSetLimp
  | .writePlan => ownWritePlan
  | .copyActive => ownCopyActive
  | .swap => ownSwap
  | .cancelSwap => ownCancelSwap
  | .readPlan => ownReadPlan
  | .setCylMode => ownSetCylMode
  | .clearMask => ownClearMask
  | .flushCyl => ownFlushCyl
  | .arm => ownArm
  | .disarm => ownDisarm
  | .fuelCut => ownFuelCut
  | .releaseBank => ownReleaseBank
  | .readAngle => ownReadAngle
  | .readStatus => ownReadStatus
  | .readShadow => ownReadShadow
  | .readMarks => ownReadMarks
  | .readCounters => ownReadCounters
  | .readFault => ownReadFault
  | .clearFault => ownClearFault
  | .fetchNotices => ownFetchNotices
  | .setNoticeMask => ownSetNoticeMask
  | .enterStandby => ownEnterStandby
  | .setWake => ownSetWake
  | .softReset => ownSoftReset

/-- What becomes of the bytes received, once the transaction is closed and the turnaround has started
(R166). -/
def settleFrame (verdict : FrameVerdict) (count : Nat) (s : State) : State :=
  match verdict with
  | .badLength => setReply .badLength s.link.lastTag [byte count] s
  | .badCrc => setReply .badCrc s.link.lastTag [] s
  | .unknownKind kind tag =>
    let s := setReply .unknownKind tag [kind] s
    s.setLink { s.link with lastTag := tag }
  | .good c tag payload => carryOut tag payload (owner c) s

/-- The release of a transaction judged in RUN with the timer idle: the frame is checked and carried out
(R166). -/
def releaseCarried (mosi : List Bool) (s : State) : State :=
  let l := s.link.receiveBits mosi
  settleFrame (judgeFrame l.rx l.rxCount) l.rxCount (startTurnaround (closeTransaction s))

/-- The release of CS_N, by the case of the transaction (R164, R165; log 19). -/
def released (mosi : List Bool) (s : State) : State :=
  match s.link.transaction with
  | some .carried => if s.running then releaseCarried mosi s else closeTransaction s
  | some .busy => if s.running then startTurnaround (closeTransaction s) else closeTransaction s
  | some .notReady => closeTransaction s
  | some .unanswered => closeTransaction s
  | none => if s.running then startTurnaround s else s

/-- The turnaround timer expires and becomes idle (R165). -/
def turnaroundExpires (s : State) : State :=
  match s.link.turnaround with
  | some t => if reached t s.now then s.setLink { s.link with turnaround := none } else s
  | none => s

/-! ### Meanings -/

/-- The meaning of CS_N_FALL. While RESET_N is low no transaction opens (R175, R199). -/
def execCsNFall (s : State) : Host.Outcome State Fault Refusal :=
  .next (if s.pins.resetLow then s else fallJudged s)

/-- The meaning of CS_N_RELEASE. -/
def execCsNRelease (mosi : List Bool) (s : State) : Host.Outcome State Fault Refusal := .next (released mosi s)

/-- The meaning of TURNAROUND_EXPIRY. -/
def execTurnaroundExpiry (s : State) : Host.Outcome State Fault Refusal :=
  .next (if s.running then turnaroundExpires s else s)

/-- The meaning of NOP. -/
def execNop (tag : Byte) (p : List Byte) (s : State) : Host.Outcome State Fault Refusal :=
  .next (carryOut tag p ownNop s)

/-- The meaning of IDENT. -/
def execIdent (tag : Byte) (p : List Byte) (s : State) : Host.Outcome State Fault Refusal :=
  .next (carryOut tag p ownIdent s)

/-- The meaning of READ_STATUS. -/
def execReadStatus (tag : Byte) (p : List Byte) (s : State) : Host.Outcome State Fault Refusal :=
  .next (carryOut tag p ownReadStatus s)

end Sys2Proof.Machine
end

