-- ==== Sys2Proof/Machine/Dispatch.lean ====
section
/-! DEFINITION. The dispatch: one arm for each command of the table, each one call of its meaning. -/

namespace Sys2Proof.Machine

def exec (i : Instr) (s : State) : Host.Outcome State Fault Refusal :=
  match i with
  | .csNFall => Sys2Proof.Machine.execCsNFall s
  | .csNRelease mosi => Sys2Proof.Machine.execCsNRelease mosi s
  | .turnaroundExpiry => Sys2Proof.Machine.execTurnaroundExpiry s
  | .nop tag p => Sys2Proof.Machine.execNop tag p s
  | .ident tag p => Sys2Proof.Machine.execIdent tag p s
  | .setWheel tag p => Sys2Proof.Machine.execSetWheel tag p s
  | .setCam tag p => Sys2Proof.Machine.execSetCam tag p s
  | .setRing tag p => Sys2Proof.Machine.execSetRing tag p s
  | .setLimits tag p => Sys2Proof.Machine.execSetLimits tag p s
  | .setFueling tag p => Sys2Proof.Machine.execSetFueling tag p s
  | .setLimp tag p => Sys2Proof.Machine.execSetLimp tag p s
  | .writePlan tag p => Sys2Proof.Machine.execWritePlan tag p s
  | .copyActive tag p => Sys2Proof.Machine.execCopyActive tag p s
  | .swap tag p => Sys2Proof.Machine.execSwap tag p s
  | .cancelSwap tag p => Sys2Proof.Machine.execCancelSwap tag p s
  | .readPlan tag p => Sys2Proof.Machine.execReadPlan tag p s
  | .setCylMode tag p => Sys2Proof.Machine.execSetCylMode tag p s
  | .clearMask tag p => Sys2Proof.Machine.execClearMask tag p s
  | .flushCyl tag p => Sys2Proof.Machine.execFlushCyl tag p s
  | .arm tag p => Sys2Proof.Machine.execArm tag p s
  | .disarm tag p => Sys2Proof.Machine.execDisarm tag p s
  | .fuelCut tag p => Sys2Proof.Machine.execFuelCut tag p s
  | .releaseBank tag p => Sys2Proof.Machine.execReleaseBank tag p s
  | .readAngle tag p => Sys2Proof.Machine.execReadAngle tag p s
  | .readStatus tag p => Sys2Proof.Machine.execReadStatus tag p s
  | .readShadow tag p => Sys2Proof.Machine.execReadShadow tag p s
  | .readMarks tag p => Sys2Proof.Machine.execReadMarks tag p s
  | .readCounters tag p => Sys2Proof.Machine.execReadCounters tag p s
  | .readFault tag p => Sys2Proof.Machine.execReadFault tag p s
  | .clearFault tag p => Sys2Proof.Machine.execClearFault tag p s
  | .fetchNotices tag p => Sys2Proof.Machine.execFetchNotices tag p s
  | .setNoticeMask tag p => Sys2Proof.Machine.execSetNoticeMask tag p s
  | .enterStandby tag p => Sys2Proof.Machine.execEnterStandby tag p s
  | .setWake tag p => Sys2Proof.Machine.execSetWake tag p s
  | .softReset tag p => Sys2Proof.Machine.execSoftReset tag p s
  | .resetNLow => Sys2Proof.Machine.execResetNLow s
  | .resetNRise => Sys2Proof.Machine.execResetNRise s
  | .warmupEnd => Sys2Proof.Machine.execWarmupEnd s
  | .wakeLevelRise high => Sys2Proof.Machine.execWakeLevelRise high s
  | .refclkCycle picoseconds => Sys2Proof.Machine.execRefclkCycle picoseconds s
  | .refclkMissing => Sys2Proof.Machine.execRefclkMissing s
  | .crankActiveEdge => Sys2Proof.Machine.execCrankActiveEdge s
  | .crankTrailingEdge => Sys2Proof.Machine.execCrankTrailingEdge s
  | .crankStall => Sys2Proof.Machine.execCrankStall s
  | .camEdge => Sys2Proof.Machine.execCamEdge s
  | .camStall => Sys2Proof.Machine.execCamStall s
  | .startTimerExpiry id => Sys2Proof.Machine.execStartTimerExpiry id s
  | .latenessExpiry id => Sys2Proof.Machine.execLatenessExpiry id s
  | .peakRise x => Sys2Proof.Machine.execPeakRise x s
  | .peakTimeoutAbort x => Sys2Proof.Machine.execPeakTimeoutAbort x s
  | .durationEnd x => Sys2Proof.Machine.execDurationEnd x s
  | .shortAssertion x asserted => Sys2Proof.Machine.execShortAssertion x asserted s
  | .rechargeComplete x => Sys2Proof.Machine.execRechargeComplete x s
  | .separationElapse c => Sys2Proof.Machine.execSeparationElapse c s
  | .lastEndInvalid c => Sys2Proof.Machine.execLastEndInvalid c s

end Sys2Proof.Machine
end

