-- ==== Sys2Proof/Machine/Timers.lean ====
section
/-! DEFINITION. The part's own time (log 1): which of its timers have run out, the free order in which those of
one instant are taken (log 2), and what the part does when no command waits. -/

namespace Sys2Proof.Machine

/-! ### Timers that have run out -/

/-- A time of the state that is present and reached. -/
def timeUp (t : Option Time) (s : State) : Bool :=
  match t with
  | some t => reached t s.now
  | none => false

/-- A command, when a condition holds. -/
def whenDue (b : Bool) (c : Instr) : List Instr := if b then [c] else []

/-- The expiry of a request: its start timer in ARMED, its lateness timer in DUE (R94, R120). -/
def requestDue (s : State) (r : Request) : List Instr :=
  match r.state with
  | .armed => whenDue (timeUp r.scheduledStart s) (.startTimerExpiry r.id)
  | .due => whenDue (timeUp r.lateExpiry s) (.latenessExpiry r.id)
  | .planned => []
  | .boost => []
  | .hold => []

/-- The recharge's completion time, when it runs (R109). -/
def completion (c : Charge) : Option Time :=
  match c with
  | .ready => none
  | .charging t => t

/-- The occupant of a bank is in BOOST. -/
def boosting (x : Bank) (s : State) : Bool := (occupant x s).any (fun o => o.state == .boost)

/-- The expiries of a drive bank: peak timer, duration, recharge (R109, R129). -/
def bankDue (s : State) (x : Bank) : List Instr :=
  whenDue (boosting x s && timeUp ((s.drive x).pulse.bind (·.peakExpiry)) s) (.peakTimeoutAbort x) ++
  whenDue ((occupant x s).isSome && timeUp ((s.drive x).pulse.map (·.durationEnd)) s) (.durationEnd x) ++
  whenDue (timeUp (completion (s.drive x).charge) s) (.rechargeComplete x)

/-- The time `n` tu after a cylinder's last end. -/
def sinceEnd (s : State) (c : Cylinder) (n : Nat) : Option Time := (s.cyl c).lastEnd.map (fun t => later t n)

/-- A separation point that an end reaches as it is recorded: the minimum separation is 0, and an auction would
change something (R112). -/
def separatesAtOnce (s : State) (c : Cylinder) : Bool :=
  s.queue.limits.minSeparation == 0 && (s.cyl c).lastEnd == some s.now && separationElapses c s != s

/-- The expiries of a cylinder's last-end record (R56, R112). -/
def cylDue (s : State) (c : Cylinder) : List Instr :=
  whenDue (separatesAtOnce s c) (.separationElapse c) ++ whenDue (timeUp (sinceEnd s c 8000) s) (.lastEndInvalid c)

/-- Every timer that has run out and not been taken, as the command its expiry is. -/
def expiries (s : State) : List Instr :=
  whenDue (timeUp s.link.turnaround s) .turnaroundExpiry ++
  whenDue (stallDue s.tracker.crankTimer s.tracker.wheel.stallTime s.now) .crankStall ++
  whenDue (stallDue s.tracker.camTimer s.tracker.cam.stallTime s.now) .camStall ++
  s.queue.requests.flatMap (requestDue s) ++ bankDue s .a ++ bankDue s .b ++ allCylinders.flatMap (cylDue s)

/-- The cylinders whose separation point the timebase has just reached (R112). -/
def separations (s : State) : List Instr :=
  allCylinders.flatMap (fun c =>
    whenDue (sinceEnd s c s.queue.limits.minSeparation == some s.now) (.separationElapse c))

/-! ### The free order (log 2) -/

/-- The order of a list that a number codes: each digit, in falling bases, picks one of those left. -/
def arrangeBy : Nat → Nat → List Instr → List Instr
  | 0, _, xs => xs
  | fuel + 1, n, xs =>
    match xs[n % xs.length]? with
    | some x => x :: arrangeBy fuel (n / xs.length) (xs.eraseIdx (n % xs.length))
    | none => xs

/-- A list in the order a number codes. -/
def arrange (n : Nat) (xs : List Instr) : List Instr := arrangeBy xs.length n xs

/-- The expiries of one instant wait in a free order. One alone uses no free value. -/
def enqueue (xs : List Instr) (s : State) : State :=
  if xs.length < 2 then { s with pending := xs }
  else { s with pending := arrange (Config.tieOrder s.freeIndex) xs, freeIndex := s.freeIndex + 1 }

/-! ### No command waits -/

/-- One tu passes (R192; its length in real time is left out, log 23). -/
def tick (s : State) : State := s.setControl { s.control with timebase := s.control.timebase + 1 }

/-- RUN: the expiries of this instant, else one tu passes and those of the next instant (R192). -/
def idleRun (s : State) : State :=
  let due := expiries s
  if due.isEmpty then
    let s := tick s
    enqueue (expiries s ++ separations s) s
  else enqueue due s

/-- WARMUP: one tu of the fallback oscillator passes, or the warm-up ends (R198). -/
def idleWarmup (s : State) : State :=
  if s.control.warmupLeft = 0 then { s with pending := [.warmupEnd] }
  else s.setControl { s.control with warmupLeft := s.control.warmupLeft - 1 }

/-- STANDBY: a high WAKE level already present is a wake source (R197). Nothing else happens. -/
def idleStandby (s : State) : State :=
  if s.control.wakeEnables.wakeLevel && s.pins.wake then { s with pending := [.wakeLevelRise true] } else s

/-- What the part does when no command waits. While RESET_N is low it is held (R199). -/
def idle (s : State) : State :=
  if s.pins.resetLow then s
  else
    match s.control.mode with
    | .run => idleRun s
    | .warmup => idleWarmup s
    | .standby => idleStandby s

end Sys2Proof.Machine
end

