-- ==== Sys2Proof/Safety.lean ====
section
/-! DEFINITION. What a sound state is, in the terms the claims use: bounded records, outputs that follow the
occupants, a fueling state that is the derived one, stored plans in order, timers within their limits, and requests in order. -/

namespace Sys2Proof.Safety

open Sys2Proof.Machine

/-! ### Bounds -/

/-- The bounds of the part's records: at most 32 notices (R181), ALERT_N asserted exactly while one waits (R182),
at most 16 requests (R85) and a depth mark within that (R83), a plan age to 255 (R75), 64 bytes received (R163), a
reference-return count to 1024 (R191), failure counts to 15 (R44). -/
structure Bounded (s : State) : Prop where
  notices : s.notices.queue.length ≤ 32
  alert : s.notices.alert = !s.notices.queue.isEmpty
  requests : s.queue.requests.length ≤ 16
  depthMark : s.queue.depthMark ≤ 16
  age : s.store.age ≤ 255
  received : s.link.rx.length ≤ 64
  reference : s.control.refCount ≤ 1024
  failures : ∀ c, (s.cyl c).failures ≤ 15

/-! ### Outputs -/

/-- The driving requests of a bank: those in BOOST or HOLD. -/
def drivers (x : Bank) (s : State) : List Request :=
  s.queue.requests.filter (fun r => r.bank == x && driving r.state)

/-- The driving requests of a cylinder, on either bank. -/
def driversOf (c : Cylinder) (s : State) : List Request :=
  s.queue.requests.filter (fun r => r.cylinder == c && driving r.state)

/-- A bank's request in a state drives. -/
def drives (x : Bank) (st : RequestState) (s : State) : Bool :=
  s.queue.requests.any (fun r => r.bank == x && r.state == st)

/-- The outputs of the power stage follow the driving requests, each bank and each cylinder has at most one, and
outside RUN nothing drives (R129, R130, R195, R199). -/
structure OutputsFollow (s : State) : Prop where
  oneOfBank : ∀ x, (drivers x s).length ≤ 1
  oneOfCylinder : ∀ c, (driversOf c s).length ≤ 1
  boost : ∀ x, (s.drive x).boostOut = drives x .boost s
  hold : ∀ x, (s.drive x).holdOut = drives x .hold s
  pulse : ∀ x, (s.drive x).pulse.isSome = (drives x .boost s || drives x .hold s)
  sel : ∀ c, s.sel.get c = cylDriving c s
  idle : s.running = false → ∀ x, drivers x s = []

/-! ### Fueling -/

/-- The fueling state is the derived one, the supervisor holds the tracker's and the store's last values and the clock
source, and outside RUN the part is not armed (R148, R154, R155, R156, R157). -/
structure Supervised (s : State) : Prop where
  derived : s.fueling.state = derivedState s.fueling
  sync : s.fueling.lastSync = s.tracker.sync
  speed : s.fueling.lastSpeed = s.tracker.speed
  age : s.fueling.lastAge = s.store.age
  clock : s.fueling.clockCut = (s.control.clock == .fallback)
  disarmed : s.running = false → s.fueling.armed = false

/-! ### Stored plans (R62) -/

/-- An entry's start and duration lie in the ranges of R62 under a plan lead. -/
def EntryInRange (lead : Nat) (e : PlanEntry) : Prop :=
  480 - (lead : Int) ≤ e.start ∧ e.start ≤ 2880 ∧ e.duration ≤ 10000

/-- A plan in order: kinds in kind order, starts strictly increasing, every entry in range, so at most one entry
of each kind. -/
def PlanInOrder (lead : Nat) (es : List PlanEntry) : Prop :=
  es.Pairwise (fun a b => kindCode a.kind < kindCode b.kind ∧ a.start < b.start) ∧ ∀ e ∈ es, EntryInRange lead e

/-- Every plan of both plan banks is in order and the limp plan in range, under the plan lead in force (R62). -/
structure PlansInOrder (s : State) : Prop where
  bankA : ∀ c, PlanInOrder s.table.planLead (s.store.planA.plans.get c)
  bankB : ∀ c, PlanInOrder s.table.planLead (s.store.planB.plans.get c)
  limp : EntryInRange s.table.planLead s.store.limp

/-! ### Timers and the queue -/

/-- What keeps the timers' comparisons within half the timebase (R1): periods within the limits of R30 and R32, a
cam period and a last cam edge within the cam stall time (R15, R24), an ARMED request whose start is not past (R94),
a DUE request within its lateness limit (R110, R120), requests that do not drive only while the fueling state injects
(R102), and no request outside RUN (R195). -/
structure Timely (s : State) : Prop where
  periods : ∀ h, h = s.tracker.history ∨ h = s.tracker.seek.history →
    (∀ p, h.current = some p → p ≤ 4000000) ∧ (∀ p, h.predicted = some p → p ≤ 8000000)
  camStall : s.tracker.cam.stallTime ≤ 16000000
  camPeriod : ∀ c, s.tracker.camHistory.period = some c → c ≤ 16000000
  camTimer : s.tracker.camTimer = s.tracker.camHistory.lastEdge
  camEdge : s.running = true → ∀ t, s.tracker.camHistory.lastEdge = some t →
    elapsed t s.control.timebase ≤ s.tracker.cam.stallTime
  limits : s.queue.limits.latenessMain ≤ 8000 ∧ s.queue.limits.latenessOther ≤ 8000
  lateness : ∀ r ∈ s.queue.requests, r.lateness ≤ 8000
  armed : s.running = true → ∀ r ∈ s.queue.requests, r.state = .armed →
    ∃ t, r.scheduledStart = some t ∧ (reached t s.control.timebase = true → t = s.control.timebase)
  due : s.running = true → ∀ r ∈ s.queue.requests, r.state = .due →
    ∃ t, r.dueTime = some t ∧ r.lateExpiry = some (later t r.lateness) ∧ elapsed t s.control.timebase ≤ r.lateness
  injects : injecting s.fueling.state = false → ∀ r ∈ s.queue.requests, driving r.state = true
  resting : s.running = false → s.queue.requests = [] ∧
    (s.control.mode = .warmup → s.control.wakeSource = none → s.tracker.camHistory.lastEdge = none)

/-- The requests stand in queue order: none comes before one that stands ahead of it (R86). -/
def InQueueOrder (s : State) : Prop := s.queue.requests.Pairwise (fun a b => b.before a = false)

/-- No two requests have the same cylinder, kind and cycle number (R85); with it what its reason rests on: the ring
holds a cylinder once (R45), and a cylinder with a request under the cycle number in force is named under it (R48). -/
structure NoTwins (s : State) : Prop where
  requests : s.queue.requests.Pairwise (fun a b => ¬ (a.cylinder = b.cylinder ∧ a.kind = b.kind ∧ a.cycle = b.cycle))
  ring : s.table.ring.Pairwise (fun a b => a.cylinder ≠ b.cylinder)
  named : ∀ r ∈ s.queue.requests, r.cycle = s.tracker.cycle → (s.cyl r.cylinder).cyclePlanned = true

/-! ### Replies -/

/-- `s` with a reply stored as the pending reply, and its tag as the last tag (R166, R168). -/
def answered (s : State) (status : Status) (tag : Byte) (payload : List Byte) : State :=
  { s with link := { s.link with reply := { status := status, tag := tag, payload := payload }, lastTag := tag } }

/-- `s` with a reply of the Frame Port's own: the last tag stays (R170). -/
def replied (s : State) (status : Status) (tag : Byte) (payload : List Byte) : State :=
  { s with link := { s.link with reply := { status := status, tag := tag, payload := payload } } }

/-- The link after a transaction judged in RUN has been released: closed, its bytes gone, the turnaround timer
running for 16 tu (R165, R166). -/
def linkReleased (s : State) : State :=
  { s with link := { s.link with
      transaction := none, miso := none, rx := [], rxCount := 0, turnaround := some (s.control.timebase + 16) } }

/-- A transaction that carries is open, and nothing of it has been received. -/
structure Listening (s : State) : Prop where
  running : s.running = true
  carried : s.link.transaction = some .carried
  bytes : s.link.rx = []
  count : s.link.rxCount = 0

/-- The payload length of a command that R171 judges; none for the three commands that judge their own
(R171, R173). -/
def payloadLength : Command → Option Nat
  | .nop => some 0
  | .ident => some 0
  | .setWheel => some 8
  | .setCam => some 7
  | .setRing => none
  | .setLimits => some 14
  | .setFueling => some 7
  | .setLimp => none
  | .writePlan => none
  | .copyActive => some 0
  | .swap => some 1
  | .cancelSwap => some 0
  | .readPlan => some 2
  | .setCylMode => some 2
  | .clearMask => some 1
  | .flushCyl => some 1
  | .arm => some 0
  | .disarm => some 0
  | .fuelCut => some 1
  | .releaseBank => some 1
  | .readAngle => some 0
  | .readStatus => some 0
  | .readShadow => some 1
  | .readMarks => some 0
  | .readCounters => some 2
  | .readFault => some 0
  | .clearFault => some 1
  | .fetchNotices => some 1
  | .setNoticeMask => some 3
  | .enterStandby => some 0
  | .setWake => some 2
  | .softReset => some 0

/-! ### Payloads -/

/-- A 16-bit field by its two bytes, the less significant first (R200). -/
def word (lo hi : Byte) : Nat := lo.toNat + 256 * hi.toNat

/-- The five bytes of a pulse entry (R204). -/
def entryBytes (e : RawEntry) : List Byte := byte e.kind :: (le16s e.start ++ le16 e.duration)

/-- The values five bytes can carry. -/
def Carried (e : RawEntry) : Prop := e.kind < 256 ∧ -32768 ≤ e.start ∧ e.start < 32768 ∧ e.duration < 65536

/-- An entry check fails at an index (R63, checks 2 to 6). -/
def EntryFails (lead : Nat) (es : List RawEntry) (check i : Nat) : Prop :=
  match check with
  | 2 => ∃ e, es[i]? = some e ∧ 4 < e.kind
  | 3 => ∃ j x y, i = j + 1 ∧ es[j]? = some x ∧ es[i]? = some y ∧ y.kind ≤ x.kind
  | 4 => ∃ j x y, i = j + 1 ∧ es[j]? = some x ∧ es[i]? = some y ∧ y.start ≤ x.start
  | 5 => ∃ e, es[i]? = some e ∧ (e.start < 480 - (lead : Int) ∨ 2880 < e.start)
  | 6 => ∃ e, es[i]? = some e ∧ 10000 < e.duration
  | _ => False

/-- The four bytes of a ring entry (R204). -/
def ringBytes (e : RingEntry) : List Byte := byte (cylNumber e.cylinder) :: (le16 e.tdc ++ [byte (bankCode e.bank)])

/-- A ring check fails at a firing position (R45, third step). -/
def RingFails (lead : Nat) (ring : List RingEntry) (t : Store) (check p : Nat) : Prop :=
  match check with
  | 1 => ∃ i x y, i < p ∧ ring[i]? = some x ∧ ring[p]? = some y ∧ x.cylinder = y.cylinder
  | 2 => ∃ x y, ring[p]? = some x ∧ ring[p + 1]? = some y ∧ y.tdc ≤ x.tdc
  | 3 => (∃ x y, ring[p]? = some x ∧ ring[p + 1]? = some y ∧ y.tdc < x.tdc + 480) ∨
      (∃ x y, ring[0]? = some x ∧ ring[p]? = some y ∧ p + 1 = ring.length ∧ x.tdc + 11520 < y.tdc + 480)
  | 4 => p = 255 ∧ ∃ e : PlanEntry, (e = t.limp ∨ ∃ c, e ∈ t.planA.plans.get c ∨ e ∈ t.planB.plans.get c) ∧
      e.start < 480 - (lead : Int)
  | _ => False

/-- A field of SET_LIMITS fails, the seven limits given in µs; field 8 is the minimum pulse against the maximum
(R87). -/
def LimitFails (us : Nat → Nat) (field : Nat) : Prop :=
  match field with
  | 1 => us 1 < 20 ∨ 500 < us 1
  | 2 => us 2 < 500 ∨ 10000 < us 2
  | 3 => 2000 < us 3
  | 4 => 2000 < us 4
  | 5 => 2000 < us 5
  | 6 => us 6 < 20 ∨ 400 < us 6
  | 7 => us 7 < 50 ∨ 2000 < us 7
  | 8 => us 2 < us 1
  | _ => False

/-- A field of SET_FUELING fails; field 6 is the hold limit against the cut limit (R151). -/
def FuelingFails (hold cut limit hysteresis limp : Nat) (field : Nat) : Prop :=
  match field with
  | 1 => hold < 1 ∨ 254 < hold
  | 2 => cut < 2 ∨ 255 < cut
  | 3 => limit < 1000 ∨ 4000 < limit
  | 4 => hysteresis < 50 ∨ 500 < hysteresis
  | 5 => 1 < limp
  | 6 => cut ≤ hold
  | _ => False

/-- The first failure among checks taken in order, positions in increasing order. -/
def FirstFailure (fails : Nat → Nat → Prop) (check i : Nat) : Prop :=
  fails check i ∧ ∀ k j, fails k j → check < k ∨ (check = k ∧ i ≤ j)

/-- A sound state: bounded, its outputs and its fueling state as they follow, its plans in order, its timers within
their limits, its requests in queue order and each once. -/
def soundState (s : State) : Prop :=
  Bounded s ∧ OutputsFollow s ∧ Supervised s ∧ PlansInOrder s ∧ Timely s ∧ InQueueOrder s ∧ NoTwins s

end Sys2Proof.Safety
end

