-- ==== Sys2Proof/Certificates/Slice0/Obligations.lean ====
section
/-! DEFINITION. The statements about the model, for the provers. Each docstring names the rules of the spec it rests
on; where a clause is the model's choice, it names the log entry. -/

open Sys2Proof Sys2Proof.Machine Sys2Proof.Safety

/-! ### The machine's step -/

/-- A step with a command at the front of the queue is that command's meaning on the state with the queue's rest. -/
def Obligations.StepRunsFrontCommand : Prop :=
  ∀ (c : Instr) (rest : List Instr) (s : State),
    step { s with pending := c :: rest } = exec c { s with pending := rest }

/-- The model's choice (log 1, log 2): with no command waiting in RUN, the expiries that are due are put in the queue,
each once, in some order, and time stands; with none due one tu passes (R192) and the expiries of the next instant
are put in the queue. Nothing else changes. What is put in the queue then: the command of every timer that has run
out, which are the turnaround timer (R165), the crank and cam stall timers (R21, R24), each ARMED request's start
timer (R94) and each waiting request's lateness timer (R120), the peak timer of an occupant in BOOST, the duration
end of an occupant and the recharge of each bank (R131, R137, R109), and 8000 tu after each last end (R56), each
once when no two requests are alike; and, at the tick that reaches it, each cylinder's separation point (R112), with
a minimum separation of 0 at the end itself while its auctions would change something. -/
def Obligations.IdleTakesExpiriesThenPassesTime : Prop :=
   (∀ s : State, s.pending = [] → s.running = true → s.pins.resetLow = false →
      ∃ p n, step s = .next (if expiries s = [] then
          { s with control := { s.control with timebase := s.control.timebase + 1 }, pending := p, freeIndex := n }
        else { s with pending := p, freeIndex := n }) ∧
      p.Perm (if expiries s = [] then
          expiries { s with control := { s.control with timebase := s.control.timebase + 1 } } ++
          separations { s with control := { s.control with timebase := s.control.timebase + 1 } }
        else expiries s)) ∧
   (∀ (c : Instr) (s : State),
      let out (t : Time) : Prop := (s.control.timebase - t).toNat < 2 ^ 31
      (c ∈ expiries s ↔
        (c = .turnaroundExpiry ∧ ∃ t, s.link.turnaround = some t ∧ out t) ∨
        (c = .crankStall ∧ ∃ t, s.tracker.crankTimer = some t ∧
          s.tracker.wheel.stallTime ≤ (s.control.timebase - t).toNat) ∨
        (c = .camStall ∧ ∃ t, s.tracker.camTimer = some t ∧
          s.tracker.cam.stallTime ≤ (s.control.timebase - t).toNat) ∨
        (∃ r ∈ s.queue.requests, r.state = .armed ∧ (∃ t, r.scheduledStart = some t ∧ out t) ∧
          c = .startTimerExpiry ⟨r.cylinder, r.kind, r.cycle⟩) ∨
        (∃ r ∈ s.queue.requests, r.state = .due ∧ (∃ t, r.lateExpiry = some t ∧ out t) ∧
          c = .latenessExpiry ⟨r.cylinder, r.kind, r.cycle⟩) ∨
        (∃ x o p t, c = .peakTimeoutAbort x ∧ occupant x s = some o ∧ o.state = .boost ∧ (s.drive x).pulse = some p ∧
          p.peakExpiry = some t ∧ out t) ∨
        (∃ x o p, c = .durationEnd x ∧ occupant x s = some o ∧ (s.drive x).pulse = some p ∧ out p.durationEnd) ∨
        (∃ x t, c = .rechargeComplete x ∧ (s.drive x).charge = .charging (some t) ∧ out t) ∨
        (∃ y t, c = .lastEndInvalid y ∧ (s.cyl y).lastEnd = some t ∧ out (t + 8000)) ∨
        (∃ y, c = .separationElapse y ∧ s.queue.limits.minSeparation = 0 ∧
          (s.cyl y).lastEnd = some s.control.timebase ∧ separationElapses y s ≠ s)) ∧
      (c ∈ separations s ↔ ∃ y t, c = .separationElapse y ∧ (s.cyl y).lastEnd = some t ∧
        t + BitVec.ofNat 32 s.queue.limits.minSeparation = s.control.timebase) ∧
      (s.queue.requests.Pairwise (fun a b => ¬ (a.cylinder = b.cylinder ∧ a.kind = b.kind ∧ a.cycle = b.cycle)) →
        (expiries s).Nodup))

/-- With no command waiting, the step takes one tu off what is left of a warm-up, and when nothing is left it puts
WARMUP_END in the queue; in STANDBY it stays as it is, but that a WAKE already high with its source enabled is put
in as the wake source it is; while RESET_N is low nothing happens (R197, R198, R199). So a warm-up with nothing sent
ends, by the meaning of WARMUP_END, after as many steps as it has tu left and two. The steps are the model's (log
1), and so is the count of what is left (log 6). -/
def Obligations.WarmupAndStandbyPassTheirTime : Prop :=
  ∀ s : State, s.pending = [] →
    (s.pins.resetLow = true → step s = .next s) ∧
    (s.pins.resetLow = false → s.control.mode = .warmup → step s = .next (
      if s.control.warmupLeft = 0 then { s with pending := [.warmupEnd] }
      else { s with control := { s.control with warmupLeft := s.control.warmupLeft - 1 } })) ∧
    (s.pins.resetLow = false → s.control.mode = .standby → step s = .next (
      if s.control.wakeEnables.wakeLevel = true ∧ s.pins.wake = true then { s with pending := [.wakeLevelRise true] }
      else s)) ∧
    (s.pins.resetLow = false → s.control.mode = .warmup →
      Host.Core.run Sys2Proof.core (s.control.warmupLeft + 2) s =
        exec .warmupEnd { s with control := { s.control with warmupLeft := 0 } })

/-! ### The Frame Link -/

/-- The checks of R166 read back every frame as it was written: kind, tag and payload, for every command of the
catalogue, every tag and every payload a frame can carry (R166, R167, R173, R202). -/
def Obligations.WrittenFrameReadsBack : Prop :=
  ∀ (c : Command) (tag : Byte) (p : List Byte), p.length ≤ 60 →
    bytesOfBits (bitsOfBytes (frameBytes c tag p)) = frameBytes c tag p ∧
    judgeFrame (frameBytes c tag p) (frameBytes c tag p).length = .good c tag p

/-- A command sent as a whole frame has, at the release of CS_N, exactly the effect of the command itself on the link
released: for every command of the catalogue, with every tag and every payload a frame can carry (R166, R168). -/
def Obligations.SentFrameHasItsCommandsEffect : Prop :=
  ∀ (i : Instr) (bits : List Bool) (s : State), i.wellFormed = true → i.wireBits = some bits → Listening s →
    exec (.csNRelease bits) s = exec i (linkReleased s)

/-- A frame that fails a check changes nothing but the link: too short or with L above 60, BAD_LENGTH with the count of
bytes; a CRC that does not match, BAD_CRC; both with the last tag, which stays. A good frame of a kind outside the
catalogue is answered UNKNOWN_KIND with its kind and its tag, which becomes the last tag (R166, R170). -/
def Obligations.FailedFrameIsDiscarded : Prop :=
  ∀ s : State, Listening s →
    (∀ bits : List Bool, bits.length < 24 →
      exec (.csNRelease bits) s =
        .next (replied (linkReleased s) .badLength s.link.lastTag [byte (bits.length / 8)])) ∧
    (∀ (kind tag len : Byte) (rest : List Byte), 60 < len.toNat ∨ rest.length < len.toNat + 1 →
      exec (.csNRelease (bitsOfBytes (kind :: tag :: len :: rest))) s =
        .next (replied (linkReleased s) .badLength s.link.lastTag [byte (min 255 (rest.length + 3))])) ∧
    (∀ (kind tag check : Byte) (p extra : List Byte), p.length ≤ 60 →
      check ≠ crc (kind :: tag :: byte p.length :: p) →
      exec (.csNRelease (bitsOfBytes (kind :: tag :: byte p.length :: p ++ check :: extra))) s =
        .next (replied (linkReleased s) .badCrc s.link.lastTag [])) ∧
    (∀ (kind tag : Byte) (p extra : List Byte), p.length ≤ 60 → Command.ofCode kind = none →
      exec (.csNRelease (bitsOfBytes (kind :: tag :: byte p.length :: p ++
          crc (kind :: tag :: byte p.length :: p) :: extra))) s =
        .next (answered (linkReleased s) .unknownKind tag [kind]))

/-- The fall of CS_N: NOT_READY in WARMUP, BUSY_LINK in RUN while the turnaround timer runs, else the pending reply with
the notice count taken at the fall; in STANDBY nothing is driven, and the fall wakes the part when that source is
enabled (R164, R169, R197, R202). The release of a transaction that carries no frame in: a BUSY_LINK transaction
only starts the turnaround timer again; one begun in WARMUP or STANDBY only closes, also when it is released in RUN
(the model follows R164 there, where R165 speaks of every release in RUN: log 19). The timer's expiry makes it idle
and changes nothing else (R164, R165). While RESET_N is low a fall of CS_N opens nothing, and a release with no
transaction open only starts the turnaround timer in RUN (log 19). On MISO each byte of the frame goes most
significant bit first, 0 after its last byte, and nothing is driven without one (R162). -/
def Obligations.TransactionsAreJudgedByMode : Prop :=
   (∀ s : State, s.pins.resetLow = false →
      exec .csNFall s = .next (
        match s.control.mode with
        | .warmup => { s with link := { s.link with transaction := some .notReady, rx := [], rxCount := 0,
                                                    miso := some [0x14, 0, 0, 0, crc [0x14, 0, 0, 0]] } }
        | .run =>
          if s.link.turnaround.isSome then
            { s with link := { s.link with
                transaction := some .busy, rx := [], rxCount := 0
                miso := some [0x13, s.link.lastTag, byte s.notices.queue.length, 0,
                  crc [0x13, s.link.lastTag, byte s.notices.queue.length, 0]] } }
          else
            { s with link := { s.link with
                transaction := some .carried, rx := [], rxCount := 0
                miso := some ([statusCode s.link.reply.status, s.link.reply.tag, byte s.notices.queue.length,
                    byte s.link.reply.payload.length] ++ s.link.reply.payload ++
                  [crc ([statusCode s.link.reply.status, s.link.reply.tag, byte s.notices.queue.length,
                    byte s.link.reply.payload.length] ++ s.link.reply.payload)]) } }
        | .standby =>
          let link := { s.link with transaction := some .unanswered, rx := [], rxCount := 0, miso := none }
          if s.control.wakeEnables.chipSelect then
            { s with
              link := link
              control := { s.control with
                mode := .warmup, timebase := 0, refCount := 0, wakeSource := some .chipSelect
                warmupLeft := warmupTu s.control.warmupSel } }
          else { s with link := link })) ∧
   (∀ (s : State) (mosi : List Bool),
      (s.running = true → s.link.transaction = some .busy →
        exec (.csNRelease mosi) s = .next (linkReleased s)) ∧
      (s.link.transaction = some .notReady ∨ s.link.transaction = some .unanswered →
        exec (.csNRelease mosi) s =
          .next { s with link := { s.link with transaction := none, miso := none, rx := [], rxCount := 0 } }) ∧
      (∀ e, s.running = true → s.link.turnaround = some e → reached e s.control.timebase = true →
        exec .turnaroundExpiry s = .next { s with link := { s.link with turnaround := none } })) ∧
   (∀ (s : State) (mosi : List Bool) (i : Nat),
      (s.pins.resetLow = true → exec .csNFall s = .next s) ∧
      (s.link.transaction = none → exec (.csNRelease mosi) s = .next (
        if s.running = true then { s with link := { s.link with turnaround := some (s.control.timebase + 16) } } else s)) ∧
      misoBit s i = (match s.link.miso with
        | none => none
        | some frame => some ((bitsOfBytes frame)[i]?.getD false)))

/-- Outside RUN a frame is discarded: no frame command has an effect (R164; the rows of the frame commands in those
modes are the model's choice, log 3). A payload length other than the catalogue's is refused with BAD_VALUE and an
empty payload before any other check, and the command changes nothing; SET_RING, WRITE_PLAN and SET_LIMP judge the
length themselves, in its place, with their own refusals (R171). -/
def Obligations.FrameCommandsNeedRunAndTheirLength : Prop :=
   (∀ (c : Command) (tag : Byte) (p : List Byte) (s : State), s.running = false →
      exec (c.instr tag p) s = .next s) ∧
   (∀ (c : Command) (tag : Byte) (p : List Byte) (s : State), s.running = true →
      (∀ n, payloadLength c = some n → p.length ≠ n →
        exec (c.instr tag p) s = .next (answered s .badValue tag [])) ∧
      (s.tracker.sync = .stopped → p.length ≠ 4 + 4 * u8 p 0 →
        exec (.setRing tag p) s = .next (answered s .badValue tag [])) ∧
      (s.store.pendingSwap = none → p.length ≠ 2 + 5 * u8 p 1 →
        exec (.writePlan tag p) s = .next (answered s .badValue tag [1, 0xFF])) ∧
      (p.length ≠ 4 → exec (.setLimp tag p) s = .next (answered s .badValue tag [1, 0xFF])))

/-- READ_STATUS is answered OK in every state of the part with the 92 bytes of the layout, every one of them, and
changes nothing but the reply (R174, R206). READ_ANGLE is answered OK with the sync state, the cycle number, the
speed, the timebase and the angle estimate: the crank-based estimate in FULL_SYNC and PHASE_HELD, the cam-based one
in CAM_ONLY, 0xFFFF elsewhere. It changes nothing but the reply (R27, R36, R37, R206). -/
def Obligations.StatusAndAngleRepliesFollowTheLayout : Prop :=
   (∀ (tag : Byte) (s : State), s.running = true →
      let us (n : Nat) : List Byte := le16 (n / 4)
      let count (st : RequestState) : Byte := byte (s.queue.requests.filter (fun r => r.state == st)).length
      let modeBits (m : CylMode) : Nat := match m with | .fire => 0 | .shadow => 1 | .cut => 2
      let cylinder (c : Cylinder) : List Byte :=
        let k := s.cyl c
        [byte (match s.table.ring.findIdx? (fun e => e.cylinder == c) with | some i => i | none => 255),
         byte (modeBits k.hostMode + 4 * modeBits (if k.masked || k.flushPending then .cut else k.hostMode) +
           16 * bit k.masked + 32 * bit k.flushPending),
         byte k.failures]
      let l := s.queue.limits
      let bank (x : Bank) : List Byte :=
        let d := s.drive x
        let o := s.queue.requests.find? (fun r => r.bank == x && (r.state == .boost || r.state == .hold))
        [byte (bit d.locked + 2 * bit (match x with | .a => s.pins.shortA | .b => s.pins.shortB) +
          (match d.charge with | .ready => 0 | .charging none => 4 | .charging (some _) => 8))] ++
        us (match d.charge with | .charging (some t) => (t - s.control.timebase).toNat | _ => 0) ++
        (match o with
          | some r => [byte (cylNumber r.cylinder), byte (kindCode r.kind + if r.state = .hold then 8 else 0), r.cycle]
          | none => [0xFF, 0xFF, 0xFF]) ++
        [byte (s.queue.requests.filter (fun r => r.bank == x && r.state == .due && r.lateExpiry.isSome)).length,
         byte (bit d.tree.root + 2 * bit d.tree.midLow + 4 * bit d.tree.midHigh + 8 * bit d.tree.low01 +
           16 * bit d.tree.low23 + 32 * bit d.tree.low45 + 64 * bit d.tree.low67)]
      let f := s.fueling
      ∃ b : List Byte, exec (.readStatus tag []) s = .next (answered s .ok tag b) ∧ b.length = 92 ∧
        b = [byte (syncCode s.tracker.sync), s.tracker.cycle] ++
          [byte s.table.ring.length] ++ le16 s.table.planLead ++ [byte s.table.maskThreshold] ++
          (cylinder .c1 ++ cylinder .c2 ++ cylinder .c3 ++ cylinder .c4 ++
            cylinder .c5 ++ cylinder .c6 ++ cylinder .c7 ++ cylinder .c8) ++
          [byte ((match s.store.active with | .a => 0 | .b => 1) + 2 * bit s.store.pendingSwap.isSome),
            s.store.planA.tag, s.store.planB.tag, s.store.pendingSwap.getD 0, byte s.store.age] ++
          le16 (s.store.limp.start % 65536).toNat ++ le16 s.store.limp.duration ++
          [byte s.queue.requests.length, count .planned, count .armed, count .due, count .boost, count .hold,
            byte (s.queue.requests.filter (fun r => r.shadow)).length] ++
          (us l.minPulse ++ us l.maxPulse ++ us l.minSeparation ++ us l.latenessMain ++ us l.latenessOther ++
            us l.peakTimeout ++ us l.recharge) ++
          bank .a ++ bank .b ++
          [byte (fuelCode f.state),
            byte (bit f.armed + 2 * bit f.hostCut + 4 * bit f.overspeed + 8 * bit f.clockCut + 16 * bit f.expired),
            byte (bit f.hostCut + 2 * bit f.overspeed + 4 * bit f.expired + 8 * bit f.clockCut +
              16 * bit (decide (f.lastSync = .camOnly ∧ f.limpOn = false))),
            byte f.holdLimit, byte f.cutLimit] ++
          le16 f.overspeedLimit ++ le16 f.hysteresis ++ [byte (bit f.limpOn)] ++
          [byte (match s.control.clock with | .reference => 0 | .fallback => 1)] ++ le16 s.control.refCount ++
          [byte (bit s.control.wakeEnables.crankEdge + 2 * bit s.control.wakeEnables.chipSelect +
              4 * bit s.control.wakeEnables.wakeLevel),
            byte (match s.control.warmupSel with | .us128 => 0 | .us512 => 1 | .ms2 => 2 | .ms8 => 3),
            byte (bit s.pins.wake)]) ∧
   (∀ (tag : Byte) (s : State) (angle : Nat), s.running = true →
      ((s.tracker.sync = .fullSync ∨ s.tracker.sync = .phaseHeld) ∧
        (∃ t α i p e, s.tracker.lastEdge = some ⟨t, some α⟩ ∧ s.tracker.toothIndex = some i ∧
          s.tracker.history.predicted = some p ∧
          e = (if (s.control.timebase - t).toNat < 2 ^ 31 then (s.control.timebase - t).toNat else 0) ∧
          angle = (α + min (e * ticksPerTooth s.tracker.wheel.wheel / p)
            (spanAfter s.tracker.wheel.wheel i * ticksPerTooth s.tracker.wheel.wheel - 1)) % 11520) ∨
       s.tracker.sync = .camOnly ∧
        (∃ t c e, s.tracker.camHistory.lastEdge = some t ∧ s.tracker.camHistory.period = some c ∧
          e = (if (s.control.timebase - t).toNat < 2 ^ 31 then (s.control.timebase - t).toNat else 0) ∧
          angle = (s.tracker.cam.gamma + min (e * 11520 / c) 11519) % 11520) ∨
       (s.tracker.sync = .stopped ∨ s.tracker.sync = .seeking ∨ s.tracker.sync = .crankSync) ∧ angle = 65535) →
      exec (.readAngle tag []) s = .next (answered s .ok tag
        ([byte (syncCode s.tracker.sync), s.tracker.cycle, byte s.tracker.speed, byte (s.tracker.speed / 256)] ++
          le32 s.control.timebase.toNat ++ [byte angle, byte (angle / 256)])))

/-- NOP is answered OK with nothing, IDENT with the part code 0x0860 and the revision 0x01; neither changes anything but
the reply (R174). READ_PLAN answers the active bank, the pending swap, and for a plan bank its tag and the
cylinder's plan, for the limp plan its one entry, each entry with its parity verdict, whatever the state; a selector
above 2, or a cylinder outside 1 to 8 with a plan bank, is refused with BAD_VALUE. It changes nothing but the reply
(R67, R204). READ_SHADOW answers a cylinder's capture and does not clear it (R99, R207). READ_FAULT answers the
fault record, bytes 2 to 13 all ones when no detail is present, and changes nothing but the reply (R189, R205). -/
def Obligations.ReadingCommandsOnlyReply : Prop :=
   (∀ (tag : Byte) (s : State), s.running = true →
      exec (.nop tag []) s = .next (answered s .ok tag []) ∧
      exec (.ident tag []) s = .next (answered s .ok tag [0x60, 0x08, 0x01])) ∧
   (∀ (tag sel n : Byte) (s : State), s.running = true →
      exec (.readPlan tag [sel, n]) s = .next (
        let head := (match s.store.active with | .a => 0 | .b => 1) + (if s.store.pendingSwap.isSome then 2 else 0)
        let record (e : PlanEntry) : List Byte :=
          entryBytes ⟨kindCode e.kind, e.start, e.duration⟩ ++ [if parityGood e then 0 else 1]
        let reply (t : Byte) (es : List PlanEntry) : State :=
          answered s .ok tag ([byte head, s.store.pendingSwap.getD 0, t, byte es.length] ++ es.flatMap record)
        if sel = 2 then reply 0 [s.store.limp]
        else match cylOfNumber n.toNat with
          | none => answered s .badValue tag []
          | some c =>
            if sel = 0 then reply s.store.planA.tag (s.store.planA.plans.get c)
            else if sel = 1 then reply s.store.planB.tag (s.store.planB.plans.get c)
            else answered s .badValue tag []) ∧
      exec (.readShadow tag [n]) s = .next (
        match cylOfNumber n.toNat with
        | none => answered s .badValue tag []
        | some c => match s.queue.captures.get c with
          | none => answered s .ok tag
              [0, 0xFF, 0xFF, 0xFF, 0xFF, 0xFF, 0xFF, 0xFF, 0xFF, 0xFF, 0xFF, 0xFF, 0xFF, 0xFF, 0xFF, 0xFF, 0xFF]
          | some k => answered s .ok tag ([1, byte (kindCode k.kind), k.cycle, byte k.position.val] ++ le16 k.startAngle ++
              leTimeOpt k.scheduledStart ++ leTimeOpt k.dueTime ++ [byte ((k.dueCause.map dueCauseCode).getD 255)] ++
              le16 k.duration))) ∧
   (∀ (tag : Byte) (s : State), s.running = true →
      exec (.readFault tag []) s = .next (answered s .ok tag (
        match s.notices.first with
        | none => [s.notices.summary, 0, 0xFF, 0xFF, 0xFF, 0xFF, 0xFF, 0xFF, 0xFF, 0xFF, 0xFF, 0xFF, 0xFF, 0xFF]
        | some f =>
          [s.notices.summary, 1, byte (noticeCode f.kind).val, subjectByte f.subject,
            byte (match f.bank with | some .a => 0 | some .b => 1 | none => 255), f.cycle] ++
          le16 f.detail.toNat ++ le16 (f.angle.getD 65535) ++ le32 f.timestamp.toNat)))

/-! ### Notices, counters and the fault record -/

/-- Raising a notice, whatever raises it: its kind counter increments to at most 65 535; a fault kind enters the
summary, and is captured as the first fault when the summary was empty; a fault kind, RESET, or a kind whose mask
entry is REPORT joins the queue as its newest notice and asserts ALERT_N, or, with 32 queued, counts as overflow, to
at most 255. The notice carries the cycle number in force and the timestamp. Nothing else changes (R179, R181, R182,
R185, R188). -/
def Obligations.RaisedNoticeIsCountedRecordedAndQueued : Prop :=
  ∀ (stamp : Time) (k : NoticeKind) (sub : Subject) (bank : Option Bank) (d : Half) (s : State),
    ∃ u : NoticeUnit, raiseAt stamp k sub bank d s = { s with notices := u } ∧
      (∀ q, u.kindCounts[noticeCode q] =
        if q = k then min 65535 (s.notices.kindCounts[noticeCode q] + 1) else s.notices.kindCounts[noticeCode q]) ∧
      (∀ p : Fin 8, u.summary.getLsbD p = (s.notices.summary.getLsbD p || decide (faultPosition k = some p))) ∧
      u.first = (if (faultPosition k).isSome ∧ s.notices.summary = 0 then
        some { kind := k, subject := sub, bank := bank, detail := d, cycle := s.tracker.cycle
               angle := s.tracker.angleAt stamp, timestamp := stamp } else s.notices.first) ∧
      (u.queue, u.alert, u.overflow) =
        (if (faultPosition k).isSome ∨ k = .reset ∨ s.notices.mask.getLsbD (noticeCode k) = true then
          if s.notices.queue.length < 32 then
            (s.notices.queue ++
              [{ kind := k, subject := sub, cycle := s.tracker.cycle, detail := d, timestamp := stamp }],
              true, s.notices.overflow)
          else (s.notices.queue, s.notices.alert, min 255 (s.notices.overflow + 1))
        else (s.notices.queue, s.notices.alert, s.notices.overflow)) ∧
      { u with kindCounts := s.notices.kindCounts, summary := s.notices.summary, first := s.notices.first
               queue := s.notices.queue, alert := s.notices.alert, overflow := s.notices.overflow } = s.notices

/-- FETCH_NOTICES removes the oldest min(n, q) notices and answers their number and their records, oldest first; ALERT_N
is released when none is left. An n outside 1 to 6 is refused with BAD_VALUE and changes nothing (R182, R183, R205).
SET_NOTICE_MASK replaces the mask entries of the ten report kinds other than RESET, the entry of kind code k being
bit k of the 24-bit field, and changes no other entry and nothing else (R184, R207). CLEAR_FAULT removes the kinds
of its set from the summary, empties the detail when none is left, answers the summary after, and changes the fault
record alone (R189, R207). -/
def Obligations.FetchMaskAndClearFault : Prop :=
   (∀ (tag n : Byte) (s : State), s.running = true →
      exec (.fetchNotices tag [n]) s = .next (
        if 1 ≤ n.toNat ∧ n.toNat ≤ 6 then
          answered { s with notices := { s.notices with
              queue := s.notices.queue.drop n.toNat, alert := decide (n.toNat < s.notices.queue.length) } } .ok tag
            (byte (min n.toNat s.notices.queue.length) :: (s.notices.queue.take n.toNat).flatMap (fun x =>
              [byte (noticeCode x.kind).val, subjectByte x.subject, x.cycle, byte x.detail.toNat,
                byte (x.detail.toNat / 256)] ++ le32 x.timestamp.toNat))
        else answered s .badValue tag [])) ∧
   (∀ (tag b0 b1 b2 : Byte) (s : State), s.running = true →
      ∃ m : BitVec 19, exec (.setNoticeMask tag [b0, b1, b2]) s =
          .next (answered { s with notices := { s.notices with mask := m } } .ok tag []) ∧
        ∀ k : NoticeKind, m.getLsbD (noticeCode k) =
          if (faultPosition k).isSome ∨ k = .reset then s.notices.mask.getLsbD (noticeCode k)
          else (b2 ++ b1 ++ b0).getLsbD (noticeCode k)) ∧
   (∀ (tag set : Byte) (s : State), s.running = true →
      exec (.clearFault tag [set]) s = .next (answered { s with notices := { s.notices with
          summary := s.notices.summary &&& ~~~set
          first := if s.notices.summary &&& ~~~set = 0 then none else s.notices.first } } .ok tag
        [s.notices.summary &&& ~~~set]))

/-- READ_MARKS answers the depth mark, the depth and both wait marks, and then sets the depth mark to the depth and the
wait marks to 0 (R106, R119, R187, R207). READ_COUNTERS answers the counters of a group, and with the clear flag
sets every counter of that group, and no other, to 0 after they are taken; a group above 2 or a flag above 1 is
refused with BAD_VALUE (R186, R207). -/
def Obligations.MarksAndCountersAreReadAndReset : Prop :=
   (∀ (tag : Byte) (s : State), s.running = true →
      exec (.readMarks tag []) s = .next (answered
        { s with
          queue := { s.queue with depthMark := s.queue.requests.length }
          driveA := { s.driveA with waitMark := 0 }
          driveB := { s.driveB with waitMark := 0 } } .ok tag
        ([byte s.queue.depthMark, byte s.queue.requests.length] ++ le16 s.driveA.waitMark ++ le16 s.driveB.waitMark))) ∧
   (∀ (tag g c : Byte) (s : State), s.running = true →
      exec (.readCounters tag [g, c]) s = .next (
        if 2 < g.toNat ∨ 1 < c.toNat then answered s .badValue tag []
        else if g = 0 then
          answered (if c = 1 then { s with notices := { s.notices with kindCounts := Vector.replicate 19 0 } } else s)
            .ok tag (s.notices.kindCounts.toList.flatMap le16)
        else if g = 1 then
          answered (if c = 1 then { s with notices := { s.notices with dropCounts := Vector.replicate 9 0 } } else s)
            .ok tag (s.notices.dropCounts.toList.flatMap le16)
        else
          answered (if c = 1 then { s with notices := { s.notices with
              glitch := 0, gapError := 0, camNoise := 0, camConflict := 0, predictionMiss := 0, clamp := 0
              grants := 0, overflow := 0 } } else s) .ok tag
            (le16 s.notices.glitch ++ le16 s.notices.gapError ++ le16 s.notices.camNoise ++ le16 s.notices.camConflict ++
              le16 s.notices.predictionMiss ++ le16 s.notices.clamp ++ le32 s.notices.grants.toNat ++
              [byte s.notices.overflow])))

/-! ### Settings, ring and cylinders -/

/-- SET_WHEEL: refused with ENGINE_TURNING outside STOPPED whatever its values; in STOPPED refused with BAD_VALUE for
any value out of range; else all six settings are replaced, the direction threshold and the stall time held in tu,
and nothing else changes (R4, R207). SET_CAM: refused with ENGINE_TURNING outside STOPPED and with BAD_VALUE for any
value out of range; else all four settings are replaced and the cam history is cleared as on entry to STOPPED (R5,
R207). That the cam stall timer stops with it is read from that (log 14). -/
def Obligations.TrackerSettingsAreReplacedInStopped : Prop :=
   (∀ (tag w e k t0 t1 m0 m1 a : Byte) (s : State), s.running = true →
      exec (.setWheel tag [w, e, k, t0, t1, m0, m1, a]) s = .next (
        if s.tracker.sync ≠ .stopped then answered s .engineTurning tag []
        else if 3 < w.toNat ∨ 1 < e.toNat ∨ 1 < k.toNat ∨ word t0 t1 < 20 ∨ 500 < word t0 t1 ∨ word m0 m1 < 50 ∨
            1000 < word m0 m1 ∨ 4 < a.toNat then answered s .badValue tag []
        else answered { s with tracker := { s.tracker with wheel :=
          { wheel := if w = 0 then .w36m1 else if w = 1 then .w36m2 else if w = 2 then .w60m1 else .w60m2
            activeEdge := if e = 0 then .rising else .falling
            sensor := if k = 0 then .plain else .directional
            dirThreshold := 4 * word t0 t1, stallTime := 4000 * word m0 m1, accel := a.toNat } } } .ok tag [])) ∧
   (∀ (tag g0 g1 h0 h1 m0 m1 e : Byte) (s : State), s.running = true →
      exec (.setCam tag [g0, g1, h0, h1, m0, m1, e]) s = .next (
        if s.tracker.sync ≠ .stopped then answered s .engineTurning tag []
        else if 11519 < word g0 g1 ∨ word h0 h1 < 32 ∨ 960 < word h0 h1 ∨ word m0 m1 < 500 ∨ 4000 < word m0 m1 ∨
            1 < e.toNat then answered s .badValue tag []
        else answered { s with tracker := { s.tracker with
          cam := { gamma := word g0 g1, halfWidth := word h0 h1, stallTime := 4000 * word m0 m1
                   polarity := if e = 0 then .rising else .falling }
          camHistory := { lastEdge := none, period := none, missingRun := 0, conflictRun := 0, windowFlag := false }
          camTimer := none } } .ok tag []))

/-- SET_RING with a ring that passes every check, in STOPPED: the ring, the plan lead and the mask threshold are
replaced, each plan point is its TDC angle less the plan lead mod 11 520, and nothing else changes (R46, R47).
SET_RING refused: with ENGINE_TURNING outside STOPPED, whatever it carries; with BAD_VALUE for a ring size, plan
lead or mask threshold out of range, or an entry with a cylinder, TDC angle or drive bank out of range; with
RING_INVALID, the first check that fails and the position where it fails. A refused SET_RING changes nothing but the
reply (R45). A payload whose length does not fit its ring size is refused in the same way by
FrameCommandsNeedRunAndTheirLength. -/
def Obligations.RingIsAcceptedOrRefusedByItsChecks : Prop :=
   (∀ (tag l0 l1 m : Byte) (ring : List RingEntry) (s : State), s.running = true → s.tracker.sync = .stopped →
      1 ≤ ring.length → ring.length ≤ 8 → (∀ e ∈ ring, e.tdc ≤ 11519) → 960 ≤ word l0 l1 → word l0 l1 ≤ 2880 →
      1 ≤ m.toNat → m.toNat ≤ 15 → (∀ k p, ¬ RingFails (word l0 l1) ring s.store k p) →
      exec (.setRing tag ([byte ring.length, l0, l1, m] ++ ring.flatMap ringBytes)) s =
        .next (answered { s with table := { s.table with
          ring := ring, planLead := word l0 l1, maskThreshold := m.toNat
          planPoints := ring.map (fun e => (e.tdc + 11520 - word l0 l1) % 11520) } } .ok tag [])) ∧
   (∀ (tag z l0 l1 m : Byte) (rest : List Byte) (ring : List RingEntry) (s : State), s.running = true →
      (∀ p : List Byte, s.tracker.sync ≠ .stopped → exec (.setRing tag p) s = .next (answered s .engineTurning tag [])) ∧
      (s.tracker.sync = .stopped → rest.length = 4 * z.toNat →
        (z.toNat < 1 ∨ 8 < z.toNat ∨ word l0 l1 < 960 ∨ 2880 < word l0 l1 ∨ m.toNat < 1 ∨ 15 < m.toNat ∨
          ∃ i < z.toNat, ∃ c t0 t1 b, rest[4 * i]? = some c ∧ rest[4 * i + 1]? = some t0 ∧ rest[4 * i + 2]? = some t1 ∧
            rest[4 * i + 3]? = some b ∧ (c.toNat < 1 ∨ 8 < c.toNat ∨ 11519 < word t0 t1 ∨ 1 < b.toNat)) →
        exec (.setRing tag (z :: l0 :: l1 :: m :: rest)) s = .next (answered s .badValue tag [])) ∧
      (s.tracker.sync = .stopped → 1 ≤ ring.length → ring.length ≤ 8 → (∀ e ∈ ring, e.tdc ≤ 11519) →
        960 ≤ word l0 l1 → word l0 l1 ≤ 2880 → 1 ≤ m.toNat → m.toNat ≤ 15 →
        ∀ check p, FirstFailure (RingFails (word l0 l1) ring s.store) check p →
        exec (.setRing tag ([byte ring.length, l0, l1, m] ++ ring.flatMap ringBytes)) s =
          .next (answered s .ringInvalid tag [byte check, byte p])))

/-- SET_CYL_MODE replaces the host mode of its cylinder, CLEAR_MASK clears the mask flag and the failure count of its
cylinder and answers the mask flag as it stood; each is refused with BAD_VALUE for a cylinder or a mode outside its
range. Nothing else changes (R51, R55, R207). FLUSH_CYL drops exactly the cylinder's requests in PLANNED, ARMED or
DUE as FLUSHED and answers their number; the others keep their place. With a request of the cylinder in BOOST or
HOLD the flush-pending flag is set and the reply is ACCEPTED, else the reply is OK and the flag stays clear. With
the flag already set it is refused with FLUSH_PENDING, and outside 1 to 8 with BAD_VALUE. Beyond that only the
Notice Unit changes (R57, R100). -/
def Obligations.CylinderCommandsActOnTheirCylinder : Prop :=
   (∀ (tag c m : Byte) (s : State), s.running = true →
      exec (.setCylMode tag [c, m]) s = .next (
        match cylOfNumber c.toNat with
        | none => answered s .badValue tag []
        | some x =>
          if 2 < m.toNat then answered s .badValue tag []
          else answered (s.setCyl x { s.cyl x with
            hostMode := if m = 0 then .fire else if m = 1 then .shadow else .cut }) .ok tag []) ∧
      exec (.clearMask tag [c]) s = .next (
        match cylOfNumber c.toNat with
        | none => answered s .badValue tag []
        | some x => answered (s.setCyl x { s.cyl x with masked := false, failures := 0 }) .ok tag
            [if (s.cyl x).masked then 1 else 0])) ∧
   (∀ (tag c : Byte) (s : State), s.running = true →
      match cylOfNumber c.toNat with
      | none => exec (.flushCyl tag [c]) s = .next (answered s .badValue tag [])
      | some x =>
        if (s.cyl x).flushPending then exec (.flushCyl tag [c]) s = .next (answered s .flushPending tag [])
        else
          let drops := s.queue.requests.filter (fun r => r.cylinder == x && !driving r.state)
          let stays := s.queue.requests.filter (fun r => !(r.cylinder == x && !driving r.state))
          let drives := stays.any (fun r => r.cylinder == x)
          ∃ u : NoticeUnit,
            exec (.flushCyl tag [c]) s = .next (answered
              (State.setCyl { s with queue := { s.queue with requests := stays }, notices := u } x
                { s.cyl x with flushPending := drives })
              (if drives then .accepted else .ok) tag [byte drops.length]) ∧
            u = (drops.foldl (fun t r => noteDrop .flushed r t) s).notices)

/-! ### The Schedule Store -/

/-- WRITE_PLAN with a plan in order, no swap pending: the cylinder's plan in the staging bank becomes the entries in the
order given, each with a parity bit that makes its count of ones even, and nothing else changes (R64, R65, R77; the
widths the count is taken over are the model's, log 20). WRITE_PLAN refused: with STAGING_LOCKED while a swap is
pending, whatever its values; else with BAD_VALUE, the number of the first check that fails and the index of the
entry at which it fails. Nothing but the reply changes (R63, R65). -/
def Obligations.WritePlanStoresOrReportsTheFirstFailure : Prop :=
   (∀ (tag : Byte) (c : Cylinder) (es : List RawEntry) (plan : List PlanEntry) (s : State),
      s.running = true → s.store.pendingSwap = none → (∀ e ∈ es, Carried e) →
      plan.map (fun e => (⟨kindCode e.kind, e.start, e.duration⟩ : RawEntry)) = es →
      PlanInOrder s.table.planLead plan → (∀ e ∈ plan, parityGood e = true) →
      exec (.writePlan tag ([byte (cylNumber c), byte es.length] ++ es.flatMap entryBytes)) s =
        .next (answered { s with store := match s.store.active with
          | .a => { s.store with planB := { s.store.planB with plans := s.store.planB.plans.set c plan } }
          | .b => { s.store with planA := { s.store.planA with plans := s.store.planA.plans.set c plan } } } .ok tag [])) ∧
   (∀ (tag : Byte) (s : State), s.running = true →
      (∀ p : List Byte, s.store.pendingSwap.isSome = true →
        exec (.writePlan tag p) s = .next (answered s .stagingLocked tag [])) ∧
      (∀ (c n : Byte) (rest : List Byte), s.store.pendingSwap = none → c.toNat < 1 ∨ 8 < c.toNat ∨ 5 < n.toNat →
        exec (.writePlan tag (c :: n :: rest)) s = .next (answered s .badValue tag [1, 0xFF])) ∧
      (∀ (c : Cylinder) (es : List RawEntry) (check i : Nat), s.store.pendingSwap = none → (∀ e ∈ es, Carried e) →
        es.length ≤ 5 → FirstFailure (EntryFails s.table.planLead es) check i →
        exec (.writePlan tag ([byte (cylNumber c), byte es.length] ++ es.flatMap entryBytes)) s =
          .next (answered s .badValue tag [byte check, byte i])))

/-- SET_LIMP: a start angle outside 480 less the plan lead to 2880 fails check 5 at index 0, a duration above 10 000
check 6; else the limp plan is replaced by a MAIN entry whose parity matches, in every state of swap and sync, and
nothing else changes (R63, R80, R77). -/
def Obligations.SetLimpReplacesTheLimpPlan : Prop :=
  ∀ (tag a0 a1 d0 d1 : Byte) (s : State), s.running = true →
    ∃ e : PlanEntry, e.kind = .main ∧ e.start = (a1 ++ a0 : BitVec 16).toInt ∧ e.duration = word d0 d1 ∧
      parityGood e = true ∧
    exec (.setLimp tag [a0, a1, d0, d1]) s = .next (
      if e.start < 480 - (s.table.planLead : Int) ∨ 2880 < e.start then answered s .badValue tag [5, 0]
      else if 10000 < e.duration then answered s .badValue tag [6, 0]
      else answered { s with store := { s.store with limp := e } } .ok tag [])

/-- COPY_ACTIVE, no swap pending: the staging plan of each cylinder becomes a copy of the active one, entry by entry
with a matching parity, or empty when any entry of the active plan mismatches; the reply is the set of cylinders
copied empty, STORE_PARITY is raised for each with its count of failed entries, in rising number (R66 says cylinder
by cylinder; that order is the model's, log 17), and the tags, the active bank and everything else stay. With a swap
pending it is refused with STAGING_LOCKED (R66, R79). -/
def Obligations.CopyActiveFillsTheStagingBank : Prop :=
  ∀ (tag : Byte) (s : State), s.running = true →
    (s.store.pendingSwap.isSome = true → exec (.copyActive tag []) s = .next (answered s .stagingLocked tag [])) ∧
    (s.store.pendingSwap = none → ∃ (plans : Eight (List PlanEntry)) (u : NoticeUnit) (empty : Byte),
      exec (.copyActive tag []) s = .next (answered { s with
        notices := u
        store := match s.store.active with
          | .a => { s.store with planB := { s.store.planB with plans := plans } }
          | .b => { s.store with planA := { s.store.planA with plans := plans } } } .ok tag [empty]) ∧
      (∀ c, let source := (s.store.bank s.store.active).plans.get c
        let bad := source.any (fun e => !parityGood e)
        empty.getLsbD (cylNumber c - 1) = bad ∧
        (plans.get c).map (fun e => (e.kind, e.start, e.duration)) =
          (if bad then [] else source.map (fun e => (e.kind, e.start, e.duration))) ∧
        ∀ e ∈ plans.get c, parityGood e = true) ∧
      u = ((allCylinders.filter (fun c => ((s.store.bank s.store.active).plans.get c).any (fun e => !parityGood e))).foldl
        (fun t c => raise .storeParity (.cylinder c) none (half ((match s.store.active with | .a => 0 | .b => 1) +
          16 * (((s.store.bank s.store.active).plans.get c).filter (fun e => !parityGood e)).length + 256)) t) s).notices)

/-- SWAP and CANCEL_SWAP. With a swap pending SWAP is refused with SWAP_PENDING; in FULL_SYNC, PHASE_HELD and CAM_ONLY
it becomes pending with its tag and is answered as scheduled; in the other sync states it takes effect at once and
is answered as done with the cycle number. CANCEL_SWAP is refused with NO_SWAP when none is pending, else the
pending swap becomes absent and its tag is answered (R69, R72, R207). What a swap does when it takes effect: the
banks exchange roles and keep their plans, the new active bank gets the swap's tag, the plan age is 0 and handed to
the Fueling Supervisor, no swap is pending, and SWAP_DONE is raised last, after the notices of that hand-over (log
16), with the new active bank, the tag and the form. What the hand-over of the age can change besides is the fueling
state, the requests it drops and the notices of both (R70, R71, R76). An origin event: the cycle number advances,
wrapping from 255 to 0, and every cycle-planned flag is cleared; then a pending swap takes effect, and the age does
not increment, or, with none pending, the plan age increments to at most 255 and is handed to the Fueling Supervisor
(R14, R49, R71, R75, R76). -/
def Obligations.SwapIsScheduledOrTakesEffect : Prop :=
   (∀ (tag x : Byte) (s : State), s.running = true →
      exec (.swap tag [x]) s = .next (
        if s.store.pendingSwap.isSome then answered s .swapPending tag []
        else match s.tracker.sync with
          | .fullSync | .phaseHeld | .camOnly =>
            answered { s with store := { s.store with pendingSwap := some x } } .ok tag [0, 0xFF]
          | .stopped | .seeking | .crankSync =>
            answered (swapTakesEffect x true s) .ok tag [1, s.tracker.cycle]) ∧
      exec (.cancelSwap tag []) s = .next (
        match s.store.pendingSwap with
        | none => answered s .noSwap tag []
        | some y => answered { s with store := { s.store with pendingSwap := none } } .ok tag [y])) ∧
   (∀ (x : Byte) (atOnce : Bool) (s : State),
      let t := swapTakesEffect x atOnce s
      t.store.active = otherBank s.store.active ∧
      (∀ y : Bank, (t.store.bank y).plans = (s.store.bank y).plans) ∧
      (t.store.bank t.store.active).tag = x ∧ (t.store.bank s.store.active).tag = (s.store.bank s.store.active).tag ∧
      t.store.age = 0 ∧ t.fueling.lastAge = 0 ∧ t.store.pendingSwap = none ∧ t.store.limp = s.store.limp ∧
      (∃ h : State, h.store = t.store ∧ h.tracker = s.tracker ∧ t = raise .swapDone (.bank t.store.active) none
        (half (x.toNat + 256 * bit atOnce)) h) ∧
      t = { s with store := t.store, fueling := t.fueling, notices := t.notices
                   queue := { s.queue with requests := t.queue.requests } }) ∧
   (∀ s : State,
      let v : State := { s with
        tracker := { s.tracker with cycle := s.tracker.cycle + 1 }
        table := { s.table with cyls := s.table.cyls.map (fun k => { k with cyclePlanned := false }) } }
      originEvent s = match s.store.pendingSwap with
        | some tag => swapTakesEffect tag false v
        | none => handAge { v with store := { s.store with age := min 255 (s.store.age + 1) } })

/-! ### Limits and fueling -/

/-- SET_LIMITS: the first field that fails refuses it with that field's number; else all seven limits are replaced
together, held in tu, and each cylinder whose separation point has thereby moved to an instant already reached that
was not reached before has its separation elapse, in rising cylinder number (R87, R112; the order among cylinders is
the model's, log 17; that a point already reached before does not elapse again, log 28; that these auctions judge
truncation, log 29). -/
def Obligations.SetLimitsReplacesAllSeven : Prop :=
  ∀ (tag : Byte) (p : List Byte) (us : Nat → Nat) (s : State), s.running = true → p.length = 14 →
    (∀ k lo hi, k < 7 → p[2 * k]? = some lo → p[2 * k + 1]? = some hi → us (k + 1) = word lo hi) →
    (∀ field, FirstFailure (fun k _ => LimitFails us k) field 0 →
      exec (.setLimits tag p) s = .next (answered s .badValue tag [byte field])) ∧
    ((∀ k, ¬ LimitFails us k) →
      let u : State := { s with queue := { s.queue with limits :=
        { minPulse := 4 * us 1, maxPulse := 4 * us 2, minSeparation := 4 * us 3, latenessMain := 4 * us 4
          latenessOther := 4 * us 5, peakTimeout := 4 * us 6, recharge := 4 * us 7 } } }
      let elapses := allCylinders.filter (fun c => match (s.cyl c).lastEnd with
        | none => false
        | some t => !reached (t + BitVec.ofNat 32 s.queue.limits.minSeparation) s.control.timebase &&
            reached (t + BitVec.ofNat 32 (4 * us 3)) s.control.timebase)
      exec (.setLimits tag p) s = .next (answered (elapses.foldl (fun v c => separationElapses c v) u) .ok tag []))

/-- A derivation takes the first matching row of the table: DISARMED, CUT, SYNC_WAIT, LIMP, AGED, NORMAL. When the state
differs, it is replaced, FUEL_STATE is raised with the old state, the new state, the cause and the cut reasons, and
leaving an injecting state for one that does not inject then drops the requests that do not drive. When it does not
differ, nothing happens (R156, R157, R158). A drop, of a request of the queue or of a candidate, counts under its
reason, to at most 65 535, and raises PULSE_DROPPED with the cylinder as subject and the reason, the kind and the
request's own cycle number as detail. A drop order of the tracker or the supervisor removes exactly the requests in
PLANNED, ARMED or DUE, leaves the driving ones in their order, and notes each drop in queue order; so the reason's
counter and the kind's counter rise by the number of drops, and where the mask reports the kind and there is room
one notice for each drop joins the queue. Beyond the requests and the Notice Unit nothing changes (R100, R101, R102,
R181, R185). -/
def Obligations.FuelingStateIsTheFirstMatchingRow : Prop :=
   (∀ (cause : FuelCause) (s : State),
      let f := s.fueling
      let noCrank := decide (f.lastSync = .camOnly) && !f.limpOn
      let new : FuelState :=
        if f.armed = false then .disarmed
        else if f.hostCut || f.overspeed || f.expired || f.clockCut || noCrank then .cut
        else if f.lastSync = .stopped ∨ f.lastSync = .seeking ∨ f.lastSync = .crankSync then .syncWait
        else if f.lastSync = .camOnly then .limp
        else if f.lastAge ≥ f.holdLimit then .aged
        else .normal
      let reasons := bit f.hostCut + 2 * bit f.overspeed + 4 * bit f.expired + 8 * bit f.clockCut + 16 * bit noCrank
      let injects (x : FuelState) : Bool := x == .normal || x == .aged || x == .limp
      deriveFueling cause s =
        if new = f.state then s
        else
          let u := raise .fuelState .absent none
            (half (fuelCode f.state + 8 * fuelCode new + 64 * fuelCauseCode cause + 512 * reasons))
            { s with fueling := { f with state := new } }
          if injects f.state && !injects new then dropNonDriving .fuelState u else u) ∧
   (∀ (reason : DropReason) (s : State),
      let code := reasonCode reason
      let detail (r : Request) : Half := half (code.val + 16 * kindCode r.kind + 256 * r.cycle.toNat)
      let drops := s.queue.requests.filter (fun r => !driving r.state)
      let stays := s.queue.requests.filter (fun r => driving r.state)
      let u := (drops.foldl (fun v r => noteDrop reason r v) s).notices
      (∀ r : Request, noteDrop reason r s = raise .pulseDropped (.cylinder r.cylinder) none (detail r)
        { s with notices := { s.notices with
          dropCounts := s.notices.dropCounts.set code (min 65535 (s.notices.dropCounts[code] + 1)) } }) ∧
      dropNonDriving reason s = { s with queue := { s.queue with requests := stays }, notices := u } ∧
      (∀ q, u.dropCounts[reasonCode q] =
        if q = reason ∧ drops ≠ [] then min 65535 (s.notices.dropCounts[reasonCode q] + drops.length)
        else s.notices.dropCounts[reasonCode q]) ∧
      (∀ k, u.kindCounts[noticeCode k] =
        if k = .pulseDropped ∧ drops ≠ [] then min 65535 (s.notices.kindCounts[noticeCode k] + drops.length)
        else s.notices.kindCounts[noticeCode k]) ∧
      (s.notices.mask.getLsbD 10 = false → u.queue = s.notices.queue ∧ u.overflow = s.notices.overflow) ∧
      (s.notices.mask.getLsbD 10 = true → s.notices.queue.length + drops.length ≤ 32 →
        u.overflow = s.notices.overflow ∧ u.queue = s.notices.queue ++ drops.map (fun r =>
          { kind := .pulseDropped, subject := .cylinder r.cylinder, cycle := s.tracker.cycle, detail := detail r
            timestamp := s.control.timebase })) ∧
      u.summary = s.notices.summary ∧ u.first = s.notices.first)

/-- What the supervisor does with what it is handed: the speed is stored, judged against the overspeed limit and its
hysteresis, and the state derived; the sync state is stored and the state derived; the age is stored, judged against
the cut limit, with PLAN_EXPIRED at a new reaching, and the state derived (R152, R153, R155). -/
def Obligations.HandedValuesAreStoredJudgedAndDerived : Prop :=
  ∀ s : State,
    handSpeed s = deriveFueling .speed { s with fueling := { s.fueling with
      lastSpeed := s.tracker.speed
      overspeed := if s.tracker.speed ≥ s.fueling.overspeedLimit then true
        else if s.tracker.speed ≤ s.fueling.overspeedLimit - s.fueling.hysteresis then false
        else s.fueling.overspeed } } ∧
    handSync s = deriveFueling .sync { s with fueling := { s.fueling with lastSync := s.tracker.sync } } ∧
    handAge s = deriveFueling .age (
      let u : State := { s with fueling := { s.fueling with
        lastAge := s.store.age, expired := decide (s.store.age ≥ s.fueling.cutLimit) } }
      if s.fueling.expired = false ∧ s.store.age ≥ s.fueling.cutLimit then
        raise .planExpired .absent none (half (s.store.age + 256 * s.fueling.cutLimit)) u
      else u)

/-- ARM sets the armed flag, DISARM clears it, FUEL_CUT sets or clears the host-cut flag by its byte and is refused with
BAD_VALUE for any other; the state is derived within the same event and answered (R149, R150, R157). SET_FUELING:
the first field that fails refuses it with that field's number; else the five settings are replaced, the overspeed
flag judged against the last speed, the expired flag against the last age with PLAN_EXPIRED at a new reaching, and
the state derived once (R151, R152, R153, R157). -/
def Obligations.FuelingCommandsSetAndDerive : Prop :=
   (∀ (tag v : Byte) (s : State), s.running = true →
      (let t := deriveFueling .arm { s with fueling := { s.fueling with armed := true } }
       exec (.arm tag []) s = .next (answered t .ok tag [byte (fuelCode t.fueling.state)])) ∧
      (let t := deriveFueling .disarm { s with fueling := { s.fueling with armed := false } }
       exec (.disarm tag []) s = .next (answered t .ok tag [byte (fuelCode t.fueling.state)])) ∧
      (let t := deriveFueling .host { s with fueling := { s.fueling with hostCut := decide (v = 1) } }
       exec (.fuelCut tag [v]) s = .next (
         if v = 0 ∨ v = 1 then answered t .ok tag [byte (fuelCode t.fueling.state)] else answered s .badValue tag []))) ∧
   (∀ (tag h c o0 o1 y0 y1 l : Byte) (s : State), s.running = true →
      let fails := fun k (_ : Nat) => FuelingFails h.toNat c.toNat (word o0 o1) (word y0 y1) l.toNat k
      (∀ field, FirstFailure fails field 0 →
        exec (.setFueling tag [h, c, o0, o1, y0, y1, l]) s = .next (answered s .badValue tag [byte field])) ∧
      ((∀ k, ¬ fails k 0) →
        let u : State := { s with fueling := { s.fueling with
          holdLimit := h.toNat, cutLimit := c.toNat, overspeedLimit := word o0 o1, hysteresis := word y0 y1
          limpOn := decide (l = 1)
          overspeed := if s.fueling.lastSpeed ≥ word o0 o1 then true
            else if s.fueling.lastSpeed ≤ word o0 o1 - word y0 y1 then false else s.fueling.overspeed
          expired := decide (s.fueling.lastAge ≥ c.toNat) } }
        let v := if s.fueling.expired = false ∧ s.fueling.lastAge ≥ c.toNat then
          raise .planExpired .absent none (half (s.fueling.lastAge + 256 * c.toNat)) u else u
        exec (.setFueling tag [h, c, o0, o1, y0, y1, l]) s = .next (answered (deriveFueling .settings v) .ok tag [])))

/-! ### The Drive Arbiter -/

/-- The tie-break tree: a walk with at least one position held ends at a position that is held; and after a grant to a
position, its half of the ring is the last choice of the root, its pair the last choice of its middle switch, and
the position the last choice of its low switch (R116, R117). Under steady contention no position is starved:
whatever the switches, while the same positions hold candidates, each of them is served within eight grants in a row
(R116, R117). -/
def Obligations.TreeFindsACandidateAndSharesTheBank : Prop :=
   (∀ (t : Tree) (holds : Position → Bool) (p : Position),
      ((∃ q, holds q = true) → holds (t.walk holds) = true) ∧
      (∀ q, holds q = true → q.val / 4 ≠ p.val / 4 → ((t.served p).walk holds).val / 4 ≠ p.val / 4) ∧
      (∀ q, holds q = true → q.val / 4 = p.val / 4 → q.val / 2 ≠ p.val / 2 → ((t.served p).walk holds).val / 2 ≠ p.val / 2) ∧
      (∀ q, holds q = true → q ≠ p → q.val / 2 = p.val / 2 → (t.served p).walk holds ≠ p)) ∧
   (∀ (t : Tree) (holds : Position → Bool) (p : Position), holds p = true →
      ∃ n < 8, (((fun u : Tree => u.served (u.walk holds))^[n]) t).walk holds = p)

/-- The candidates of a drive bank are exactly the requests of its waiting set when the bank is unlocked, without an
occupant and READY and the fueling state injects, whose cylinder has no request in BOOST or HOLD and has reached its
separation point (R111, R112). An auction runs on an unlocked bank only. It judges truncation and then grants one
candidate when there is one and changes nothing when there is none. The candidate granted is of the lowest class
among the candidates; when several of that class stand at different positions, it stands at the position the tree
walk chooses; and no candidate of its class and position stands before it in queue order (R113, R114, R116, R121,
R124). A grant: the request goes from DUE to BOOST, behind the requests that already drive (R86), its lateness timer
stopped; the charge is CHARGING with no completion time; BOOST_x and the cylinder's SELn go on; the pulse record
holds the grant time, the duration end, and a peak expiry only when the duration is greater than the peak timeout;
the tree's path turns away from the position; the wait mark rises to the wait in µs; the grant counter increments.
Nothing else changes (R117, R118, R119, R129, R131). -/
def Obligations.AuctionGrantsTheChosenCandidate : Prop :=
   (∀ (x : Bank) (r : Request) (s : State),
      r ∈ candidates x s ↔
        r ∈ s.queue.requests ∧ r.bank = x ∧ r.state = .due ∧ r.lateExpiry ≠ none ∧
        (s.drive x).locked = false ∧ (s.drive x).charge = .ready ∧
        (∀ o ∈ s.queue.requests, o.bank = x → o.state ≠ .boost ∧ o.state ≠ .hold) ∧
        (s.fueling.state = .normal ∨ s.fueling.state = .aged ∨ s.fueling.state = .limp) ∧
        (∀ o ∈ s.queue.requests, o.cylinder = r.cylinder → o.state ≠ .boost ∧ o.state ≠ .hold) ∧
        (∀ t, (s.cyl r.cylinder).lastEnd = some t →
          (s.control.timebase - (t + BitVec.ofNat 32 s.queue.limits.minSeparation)).toNat < 2 ^ 31)) ∧
   (∀ (x : Bank) (s : State),
      ((s.drive x).locked = true → auction x s = s) ∧
      ((s.drive x).locked = false →
        let u := judgeTruncation x s
        (candidates x u = [] → auction x s = u) ∧
        (candidates x u ≠ [] → ∃ r before after, candidates x u = before ++ r :: after ∧ auction x s = grant x r u ∧
          (∀ c ∈ candidates x u, kindClass r.kind ≤ kindClass c.kind) ∧
          (∀ c ∈ before, ¬ (kindClass c.kind = kindClass r.kind ∧ c.position = r.position)) ∧
          r.position = (u.drive x).tree.walk (fun p => (candidates x u).any (fun c =>
            kindClass c.kind == kindClass r.kind && c.position == p))))) ∧
   (∀ (x : Bank) (r : Request) (s : State), r ∈ s.queue.requests →
      let o := { r with state := .boost, lateExpiry := none }
      grant x r s = State.setDrive
        { s with
          queue := { s.queue with requests := insertRequest o (s.queue.requests.erase r) }
          sel := s.sel.set r.cylinder true
          notices := { s.notices with grants := s.notices.grants + 1 } } x
        { s.drive x with
          charge := .charging none
          tree := (s.drive x).tree.served r.position
          waitMark := max (s.drive x).waitMark ((s.control.timebase - r.dueTime.getD s.control.timebase).toNat / 4)
          boostOut := true
          pulse := some
            { grantTime := s.control.timebase
              durationEnd := s.control.timebase + BitVec.ofNat 32 r.duration
              peakExpiry := if r.duration > s.queue.limits.peakTimeout then
                some (s.control.timebase + BitVec.ofNat 32 s.queue.limits.peakTimeout) else none } })

/-- Truncation: only an AFTER or a POST in HOLD is truncated, and only when a MAIN of another cylinder waits on its
bank. Then its outputs go off, its end is recorded at this instant with flush detail 1, it leaves the queue without
a drop, and PULSE_TRUNCATED is raised with the time since its grant in µs (R121). -/
def Obligations.WaitingMainTruncatesAfterOrPostInHold : Prop :=
  ∀ (x : Bank) (o : Request) (p : PulseRecord) (s : State), occupant x s = some o → (s.drive x).pulse = some p →
    judgeTruncation x s =
      if o.state = .hold ∧ (o.kind = .after ∨ o.kind = .post) ∧
          ∃ m ∈ waiting x s, m.kind = .main ∧ m.cylinder ≠ o.cylinder then
        let u := reportEnd o.cylinder s.control.timebase 1 (State.setDrive { s with sel := s.sel.set o.cylinder false } x
          { s.drive x with boostOut := false, holdOut := false, pulse := none })
        raise .pulseTruncated (.cylinder o.cylinder) none (half ((s.control.timebase - p.grantTime).toNat / 4))
          { u with queue := { u.queue with requests := u.queue.requests.erase o } }
      else s

/-- RELEASE_BANK: BAD_VALUE for a bank code other than A or B, CONDITION_PRESENT while SHORT_x is asserted, NOT_LOCKED
when the bank is not locked; else the lock is cleared and an auction runs on the bank (R125). RECHARGE_COMPLETE at
or after the completion time makes the charge READY, and an auction runs on the bank, which does nothing while the
bank is locked (R109, R113). SEPARATION_ELAPSE, the separation point reached, runs an auction on each bank whose
waiting set holds a request of the cylinder, bank A first (R112; that order is the model's, log 17). -/
def Obligations.ReleaseRechargeAndSeparationAuction : Prop :=
   (∀ (tag b : Byte) (s : State), s.running = true →
      exec (.releaseBank tag [b]) s = .next (
        if b = 0 then
          if s.pins.shortA then answered s .conditionPresent tag []
          else if s.driveA.locked = false then answered s .notLocked tag []
          else answered (auction .a { s with driveA := { s.driveA with locked := false } }) .ok tag []
        else if b = 1 then
          if s.pins.shortB then answered s .conditionPresent tag []
          else if s.driveB.locked = false then answered s .notLocked tag []
          else answered (auction .b { s with driveB := { s.driveB with locked := false } }) .ok tag []
        else answered s .badValue tag [])) ∧
   (∀ (x : Bank) (t : Time) (s : State), s.running = true → (s.drive x).charge = .charging (some t) →
      (s.control.timebase - t).toNat < 2 ^ 31 →
      exec (.rechargeComplete x) s = .next (auction x (s.setDrive x { s.drive x with charge := .ready }))) ∧
   (∀ (c : Cylinder) (t : Time) (s : State), s.running = true → (s.cyl c).lastEnd = some t →
      (s.control.timebase - (t + BitVec.ofNat 32 s.queue.limits.minSeparation)).toNat < 2 ^ 31 →
      exec (.separationElapse c) s = .next (
        let u := if ∃ r ∈ waiting .a s, r.cylinder = c then auction .a s else s
        if ∃ r ∈ waiting .b u, r.cylinder = c then auction .b u else u))

/-- LATENESS_EXPIRY drops the waiting request as LATE, and no auction runs (R100, R120). A row that names a request
whose timer does not run, or has not run out, has no effect (the model's choice, log 7). LAST_END_INVALID, 8000 tu
after the recorded end, marks the record invalid and changes nothing else (R56). -/
def Obligations.LatenessDropsAndLastEndExpires : Prop :=
   (∀ (id : RequestId) (s : State), s.running = true →
      exec (.latenessExpiry id) s = .next (
        match s.queue.requests.find? (fun r => decide (r.cylinder = id.cylinder ∧ r.kind = id.kind ∧ r.cycle = id.cycle)) with
        | some r =>
          match r.lateExpiry with
          | some t =>
            if r.state = .due ∧ (s.control.timebase - t).toNat < 2 ^ 31 then
              noteDrop .late r { s with queue := { s.queue with requests := s.queue.requests.erase r } }
            else s
          | none => s
        | none => s)) ∧
   (∀ (c : Cylinder) (t : Time) (s : State), s.running = true → (s.cyl c).lastEnd = some t →
      (s.control.timebase - (t + 8000)).toNat < 2 ^ 31 →
      exec (.lastEndInvalid c) s = .next (s.setCyl c { s.cyl c with lastEnd := none }))

/-! ### Pulses -/

/-- A rising edge of PEAK_x while the bank's occupant is in BOOST turns BOOST_x off and HOLD_x on, moves the request to
HOLD in its place, stops the peak timer, starts the recharge and sets the cylinder's failure count to 0; with the
occupant in HOLD, or with none, it is ignored (R54, R109, R133, R134). -/
def Obligations.PeakEndsTheBoostPhase : Prop :=
  ∀ (x : Bank) (s : State), s.running = true →
    exec (.peakRise x) s = .next (
      match occupant x s with
      | none => s
      | some o =>
        if o.state = .boost then
          State.setCyl
            (State.setDrive { s with queue := { s.queue with
                requests := s.queue.requests.map (fun r => if r = o then { r with state := .hold } else r) } } x
              { s.drive x with
                boostOut := false, holdOut := true
                pulse := (s.drive x).pulse.map (fun p => { p with peakExpiry := none })
                charge := .charging (some (s.control.timebase + BitVec.ofNat 32 s.queue.limits.recharge)) })
            o.cylinder { s.cyl o.cylinder with failures := 0 }
        else s)

/-- PEAK_TIMEOUT_ABORT of a bank's one occupant in BOOST, at or after its peak expiry: the outputs go off, the recharge
starts at the expiry, PEAK_TIMEOUT is raised with the expiry's timestamp, then the peak failure and the end, flush
detail 2, are reported, and the request is dropped as ABORTED; the auction grants nothing (R135, R139). A peak
failure counts to at most 15 and masks the cylinder with CYL_MASKED when the mask was clear and the count is now at
or above the threshold. The report of an end records it as the cylinder's last end and, with a flush pending, clears
the flag and raises FLUSH_DONE with its detail. Nothing else changes (R53, R56, R58). -/
def Obligations.PeakTimeoutAbortsInOrder : Prop :=
   (∀ (x : Bank) (o : Request) (p : PulseRecord) (t : Time) (s : State), s.running = true → drivers x s = [o] →
      o.state = .boost → (s.drive x).pulse = some p → p.peakExpiry = some t →
      (s.control.timebase - t).toNat < 2 ^ 31 →
      exec (.peakTimeoutAbort x) s = .next (
        let a := State.setDrive { s with sel := s.sel.set o.cylinder false } x { s.drive x with
          boostOut := false, holdOut := false, pulse := none
          charge := .charging (some (t + BitVec.ofNat 32 s.queue.limits.recharge)) }
        let b := raiseAt t .peakTimeout (.cylinder o.cylinder) (some x)
          (half (kindCode o.kind + 256 * (match x with | .a => 0 | .b => 1))) a
        let c := reportEnd o.cylinder t 2 (peakFailure o.cylinder x b)
        noteDrop .aborted o { c with queue := { c.queue with requests := c.queue.requests.erase o } })) ∧
   (∀ (c : Cylinder) (x : Bank) (t : Time) (d : Nat) (s : State),
      peakFailure c x s = (
        let n := min 15 ((s.cyl c).failures + 1)
        if (s.cyl c).masked = false ∧ n ≥ s.table.maskThreshold then
          raise .cylMasked (.cylinder c) (some x) (half n) (s.setCyl c { s.cyl c with failures := n, masked := true })
        else s.setCyl c { s.cyl c with failures := n }) ∧
      reportEnd c t d s = (
        let u := s.setCyl c { s.cyl c with lastEnd := some t, flushPending := false }
        if (s.cyl c).flushPending then raise .flushDone (.cylinder c) none (half d) u else u))

/-- DURATION_END of a bank's occupant, at or after its duration end: the outputs go off, the end is recorded at the
duration end with flush detail 0, the request leaves the queue without a drop, and an auction runs. In BOOST the
recharge starts at the duration end; in HOLD the charge is not touched (R137, R138, R139). -/
def Obligations.DurationEndEndsThePulse : Prop :=
  ∀ (x : Bank) (o : Request) (p : PulseRecord) (s : State), s.running = true → occupant x s = some o →
    (s.drive x).pulse = some p → (s.control.timebase - p.durationEnd).toNat < 2 ^ 31 →
    exec (.durationEnd x) s = .next (
      let a := State.setDrive { s with sel := s.sel.set o.cylinder false } x { s.drive x with
        boostOut := false, holdOut := false, pulse := none
        charge := if o.state = .boost then
          .charging (some (p.durationEnd + BitVec.ofNat 32 s.queue.limits.recharge)) else (s.drive x).charge }
      let b := reportEnd o.cylinder p.durationEnd 0 a
      auction x { b with queue := { b.queue with requests := b.queue.requests.erase o } })

/-- An assertion of SHORT_x in RUN on an unlocked bank locks it, aborts its occupant, the recharge starting now if it
was in BOOST, reports the end with flush detail 2, drops it as ABORTED and then raises BANK_SHORT with its cylinder
and kind, all ones without an occupant. On a locked bank only the level changes (R123, R139, R140). That the row
carries a level, and that at a deassertion and outside RUN only the level changes, is the model's (log 5, log 24);
the effects come in the order in which R123 and R140 list them (log 15). -/
def Obligations.ShortLocksTheBankAndAborts : Prop :=
  ∀ (x : Bank) (level : Bool) (s : State),
    let p : State := { s with pins := match x with
      | .a => { s.pins with shortA := level }
      | .b => { s.pins with shortB := level } }
    exec (.shortAssertion x level) s = .next (
      if s.running = true ∧ level = true ∧ (s.drive x).locked = false then
        match occupant x s with
        | none => raise .bankShort (.bank x) (some x) 0xFFFF (p.setDrive x { s.drive x with locked := true })
        | some o =>
          let a := State.setDrive { p with sel := s.sel.set o.cylinder false } x { s.drive x with
            locked := true, boostOut := false, holdOut := false, pulse := none
            charge := if o.state = .boost then
              .charging (some (s.control.timebase + BitVec.ofNat 32 s.queue.limits.recharge)) else (s.drive x).charge }
          let b := reportEnd o.cylinder s.control.timebase 2 a
          let c := noteDrop .aborted o { b with queue := { b.queue with requests := b.queue.requests.erase o } }
          raise .bankShort (.bank x) (some x) (half (cylNumber o.cylinder + 256 * kindCode o.kind)) c
      else p)

/-! ### Planning and the Pulse Queue -/

/-- START_TIMER_EXPIRY of an ARMED request, at or after its scheduled start: it becomes DUE at the scheduled start with
cause EXPIRY, in its place in queue order, and is handed on (R94, R97). The queue's work at a tooth event and at a
cam edge in CAM_ONLY, whatever the queue holds. At a tooth the keys are reduced and requests armed as
ToothReducesKeysAndArms says, and the requests that were ARMED and whose reduced key is 0 or less are missed; at a
cam edge every ARMED request is. Each missed request becomes DUE at the edge's time with cause EDGE, each counts one
prediction miss, and then they are handed on one at a time in queue order (R93, R95, R97; that all are DUE before
the first is handed on is the model's, log 25, and that a start at the edge's own time waits ARMED for its expiry,
log 31). A request that has become DUE is handed on: a shadow request writes its cylinder's capture and leaves the
queue; another joins its bank's waiting set with its lateness timer set to the DUE time plus its limit, and an
auction runs there; with a limit of 0 that auction is its only one, and a request still waiting is dropped as LATE
within the hand-over (R97, R98, R110, R120; that the drop belongs to the hand-over is the model's, log 27). -/
def Obligations.RequestBecomesDueAtItsStartOrTheEdge : Prop :=
   (∀ (r : Request) (t : Time) (s : State), s.running = true → findRequest r.id s = some r → r.state = .armed →
      r.scheduledStart = some t → (s.control.timebase - t).toNat < 2 ^ 31 →
      let d := { r with state := .due, dueTime := some t, dueCause := some .expiry, lateExpiry := none }
      exec (.startTimerExpiry r.id) s = .next (handOn d { s with queue := { s.queue with
        requests := insertRequest d (s.queue.requests.erase r) } })) ∧
   (∀ (e : ToothEvent) (now : Time) (s : State),
      let due (t : Time) (r : Request) : Request :=
        { r with state := .due, dueTime := some t, dueCause := some .edge, lateExpiry := none }
      let together (missed all : List Request) (t : Time) : State :=
        let moved := missed.foldl (fun q r => insertRequest (due t r) (q.erase r)) all
        (moved.filter (fun r => (missed.map (due t)).contains r)).foldl (fun u r => handOn r u)
          { s with
            queue := { s.queue with requests := moved }
            notices := { s.notices with
              predictionMiss := missed.foldl (fun n _ => min 65535 (n + 1)) s.notices.predictionMiss } }
      let tpt := 5760 / pitches s.tracker.wheel.wheel
      let passed : Int := (e.spanBefore : Int) * tpt
      let next : Int := (e.spanNext : Int) * tpt
      queueCam now s = together (s.queue.requests.filter (fun r => r.state == .armed)) s.queue.requests now ∧
      queueTooth e s = together
        ((s.queue.requests.filter (fun r => r.state == .armed && decide (r.sortKey ≤ passed))).map
          (fun r => { r with sortKey := r.sortKey - passed }))
        (s.queue.requests.map (fun r =>
          if r.state = .planned then
            if r.sortKey - passed ≤ next then
              { r with
                sortKey := r.sortKey - passed
                state := .armed
                scheduledStart := some (e.time + BitVec.ofNat 32
                  (((r.sortKey - passed).toNat * e.predicted + tpt / 2) / tpt)) }
            else { r with sortKey := r.sortKey - passed }
          else if r.state = .armed then { r with sortKey := r.sortKey - passed }
          else r)) e.time) ∧
   (∀ (r : Request) (t : Time) (s : State), r ∈ s.queue.requests → r.dueTime = some t →
      (r.shadow = true → handOn r s = { s with queue := { s.queue with
        requests := s.queue.requests.erase r
        captures := s.queue.captures.set r.cylinder (some
          { kind := r.kind, cycle := r.cycle, position := r.position, startAngle := r.startAngle
            scheduledStart := r.scheduledStart, dueTime := some t, dueCause := r.dueCause, duration := r.duration / 4 }) } }) ∧
      (r.shadow = false →
        let w := { r with lateExpiry := some (t + BitVec.ofNat 32 r.lateness) }
        let u := auction r.bank { s with queue := { s.queue with
          requests := insertRequest w (s.queue.requests.erase r) } }
        handOn r s = if r.lateness = 0 ∧ w ∈ u.queue.requests then
            noteDrop .late w { u with queue := { u.queue with requests := u.queue.requests.erase w } }
          else u))

/-- The queue's work at a tooth event that no ARMED request's start has been passed at: each key of a PLANNED or ARMED
request is reduced by the interval that ends at the edge; a PLANNED request whose key is then at most the interval
that follows becomes ARMED, its scheduled start the edge's time plus the key times P̂ over TPT, to the nearest tu,
halves up; every other request stays as it is and in its place (R34, R86, R95). That a request armed with a start at
the edge's own time is still ARMED then is the model's choice (log 31). -/
def Obligations.ToothReducesKeysAndArms : Prop :=
  ∀ (e : ToothEvent) (s : State),
    let tpt := 5760 / pitches s.tracker.wheel.wheel
    let passed : Int := (e.spanBefore : Int) * tpt
    let next : Int := (e.spanNext : Int) * tpt
    (∀ r ∈ s.queue.requests, r.state = .armed → passed < r.sortKey) →
    (∀ r ∈ s.queue.requests, r.state = .planned → passed < r.sortKey) →
    queueTooth e s = { s with queue := { s.queue with requests := s.queue.requests.map (fun r =>
      if r.state = .planned then
        if r.sortKey - passed ≤ next then
          { r with
            sortKey := r.sortKey - passed
            state := .armed
            scheduledStart := some (e.time + BitVec.ofNat 32
              (((r.sortKey - passed).toNat * e.predicted + tpt / 2) / tpt)) }
        else { r with sortKey := r.sortKey - passed }
      else if r.state = .armed then { r with sortKey := r.sortKey - passed }
      else r) } }

/-- A firing position is named at a tooth event exactly when its plan point lies in the interval that ends at the edge,
after its beginning and up to its end, and its cylinder's cycle-planned flag is clear; naming sets the flag,
whatever the planner then does. Beyond that nothing happens to a position (R48). What keeps a named cylinder from
being planned at a plan tooth: a fueling state other than NORMAL and AGED or an effective mode CUT changes nothing
at all; a parity mismatch in its plan, or in AGED in the limp plan, raises STORE_PARITY for it, naming the bank read
or the limp plan and the entries failed, and plans nothing (R52, R78, R88, R89). -/
def Obligations.PositionIsNamedAndTakenUp : Prop :=
   (∀ (e : ToothEvent) (i point : Nat) (entry : RingEntry) (s : State), s.table.ring[i]? = some entry → i < 8 →
      s.table.planPoints[i]? = some point → e.angle < 11520 → point < 11520 →
      e.spanBefore * ticksPerTooth s.tracker.wheel.wheel < 11520 →
      let length := e.spanBefore * ticksPerTooth s.tracker.wheel.wheel
      let here := ∃ k, k < length ∧ (point + k) % 11520 = e.angle
      (here ∧ (s.cyl entry.cylinder).cyclePlanned = false →
        planPosition e i s = takeUpAtTooth e (Fin.ofNat 8 i) entry
          (s.setCyl entry.cylinder { s.cyl entry.cylinder with cyclePlanned := true })) ∧
      (¬ (here ∧ (s.cyl entry.cylinder).cyclePlanned = false) → planPosition e i s = s)) ∧
   (∀ (e : ToothEvent) (p : Position) (entry : RingEntry) (s : State),
      let c := entry.cylinder
      let k := s.cyl c
      let plan := (s.store.bank s.store.active).plans.get c
      let bad := (plan.filter (fun x => !parityGood x)).length
      let takes := (s.fueling.state = .normal ∨ s.fueling.state = .aged) ∧ k.masked = false ∧ k.flushPending = false ∧
        k.hostMode ≠ .cut
      (¬ takes → takeUpAtTooth e p entry s = s) ∧
      (takes → 0 < bad → takeUpAtTooth e p entry s =
        raise .storeParity (.cylinder c) none (half ((match s.store.active with | .a => 0 | .b => 1) + 16 * bad)) s) ∧
      (takes → bad = 0 → s.fueling.state = .aged → parityGood s.store.limp = false → takeUpAtTooth e p entry s =
        raise .storeParity (.cylinder c) none (half (2 + 16)) s))

/-- A plan taken up in NORMAL or AGED, the parities matching and the queue with room. In AGED only the MAIN entry is
built, its duration no more than the limp duration. Every entry whose duration is at least the minimum pulse enters,
in class order, as one request, its start angle TDC plus the relative start, its key the distance from the plan
tooth, its duration at most the maximum pulse, ARMED with its scheduled start when the key is within the interval
that follows and PLANNED otherwise; each clamp is counted, each entry below the minimum pulse is dropped as
TOO_SHORT, in stored order, and the depth mark follows the depth (R89, R90, R91, R104, R106; a start at the plan
tooth's own time waits ARMED for its expiry: log 31). A candidate that meets 16 requests is dropped as QUEUE_FULL
with its count and notice, the queue and the depth mark untouched; one that meets fewer enters in its place, and the
depth mark is raised to the new depth. In neither case does anything else change (R85, R91, R104, R106). The place
of a request in queue order: behind every request it does not come before, and ahead of the first it does. BOOST and
HOLD come first, in the order they came; then DUE, by DUE time; then ARMED and PLANNED, by sort key; equal ones by
priority class, then by firing position, then in the order of their insertion (R86). -/
def Obligations.PlanEntersTheQueueAsRequests : Prop :=
   (∀ (e : ToothEvent) (p : Position) (entry : RingEntry) (s : State),
      let c := entry.cylinder
      let plan := (s.store.bank s.store.active).plans.get c
      let built : List PlanEntry := if s.fueling.state = .aged then
          (plan.filter (fun x => x.kind == .main)).map (fun x => { x with duration := min x.duration s.store.limp.duration })
        else plan
      let limits := s.queue.limits
      let kept := built.filter (fun x => decide (limits.minPulse ≤ 4 * x.duration))
      let tpt := 5760 / pitches s.tracker.wheel.wheel
      s.fueling.state = .normal ∨ s.fueling.state = .aged ∧ parityGood s.store.limp = true →
      effectiveMode (s.cyl c) ≠ .cut → (∀ x ∈ plan, parityGood x = true) → s.queue.requests.length + kept.length ≤ 16 →
      let request (x : PlanEntry) : Request :=
        let angle := ((entry.tdc : Int) + x.start) % 11520
        let key := (angle - e.angle) % 11520
        { cylinder := c, position := p, bank := entry.bank, kind := x.kind, cycle := s.tracker.cycle
          startAngle := angle.toNat, sortKey := key, shadow := decide (effectiveMode (s.cyl c) = .shadow)
          duration := min (4 * x.duration) limits.maxPulse
          lateness := if x.kind = .main then limits.latenessMain else limits.latenessOther
          state := if key ≤ (e.spanNext : Int) * tpt then .armed else .planned
          scheduledStart := if key ≤ (e.spanNext : Int) * tpt then
            some (e.time + BitVec.ofNat 32 (if key = 0 then 0 else (key.toNat * e.predicted + tpt / 2) / tpt)) else none
          dueTime := none, dueCause := none, lateExpiry := none }
      let requests := ([.main, .pre, .pilot, .after, .post].flatMap
          (fun k => (kept.map request).filter (fun r => r.kind == k))).foldl (fun q r => insertRequest r q) s.queue.requests
      let short := (built.filter (fun x => decide (4 * x.duration < limits.minPulse))).foldl
        (fun v x => noteDrop .tooShort (request x) v) s
      let clamps := (kept.filter (fun x => decide (limits.maxPulse < 4 * x.duration))).foldl
        (fun n _ => min 65535 (n + 1)) s.notices.clamp
      takeUpAtTooth e p entry s = { s with
        notices := { short.notices with clamp := clamps }
        queue := { s.queue with
          requests := requests
          depthMark := if kept = [] then s.queue.depthMark else max s.queue.depthMark requests.length } }) ∧
   (∀ (r : Request) (s : State),
      (16 ≤ s.queue.requests.length → enterQueue r s = noteDrop .queueFull r s ∧
        (noteDrop .queueFull r s).queue = s.queue) ∧
      (s.queue.requests.length < 16 → enterQueue r s = { s with queue := { s.queue with
        requests := insertRequest r s.queue.requests
        depthMark := max s.queue.depthMark (s.queue.requests.length + 1) } })) ∧
   (∀ (r : Request) (rs : List Request),
      let group (x : RequestState) : Nat := match x with | .boost | .hold => 1 | .due => 2 | .armed | .planned => 3
      let tie (a b : Request) : Prop :=
        kindClass a.kind < kindClass b.kind ∨ kindClass a.kind = kindClass b.kind ∧ a.position.val < b.position.val
      let before (a b : Request) : Prop :=
        group a.state < group b.state ∨
        (a.state = .due ∧ b.state = .due ∧ (2 ^ 31 ≤ (a.dueTime.getD 0 - b.dueTime.getD 0).toNat ∨
          a.dueTime.getD 0 = b.dueTime.getD 0 ∧ tie a b)) ∨
        (group a.state = 3 ∧ group b.state = 3 ∧ (a.sortKey < b.sortKey ∨ a.sortKey = b.sortKey ∧ tie a b))
      ∃ front back, rs = front ++ back ∧ insertRequest r rs = front ++ r :: back ∧
        (∀ x ∈ front, ¬ before r x) ∧ (∀ x, back.head? = some x → before r x))

/-- Cam-only planning of a cylinder: in another fueling state than LIMP or with an effective mode CUT it is named and no
more; with a parity mismatch STORE_PARITY is raised naming the limp plan and nothing planned. Else the limp entry
builds one request: below the minimum pulse it is dropped as TOO_SHORT; above the maximum it is clamped with a
count; a full queue drops it as QUEUE_FULL; it enters ARMED from the cam edge with the cam-only delay d times C over
11 520 to the nearest tu, halves up; and with d = 0 it becomes DUE at the cam edge with cause IMMEDIATE and is
handed on (R42, R50, R78, R92, R97, R104). -/
def Obligations.LimpRequestIsTimedFromTheCamEdge : Prop :=
  ∀ (t : Time) (period i : Nat) (entry : RingEntry) (s : State), s.table.ring[i]? = some entry → i < 8 →
    let c := entry.cylinder
    let limp := s.store.limp
    let named := s.setCyl c { s.cyl c with cyclePlanned := true }
    let angle := ((entry.tdc : Int) + limp.start) % 11520
    let d := ((angle - s.tracker.cam.gamma) % 11520).toNat
    let limits := s.queue.limits
    let clamped : State := if limits.maxPulse < 4 * limp.duration then
      { named with notices := { s.notices with clamp := min 65535 (s.notices.clamp + 1) } } else named
    let r : Request :=
      { cylinder := c, position := Fin.ofNat 8 i, bank := entry.bank, kind := limp.kind, cycle := s.tracker.cycle
        startAngle := angle.toNat, sortKey := d, shadow := decide (effectiveMode (s.cyl c) = .shadow)
        duration := min (4 * limp.duration) limits.maxPulse
        lateness := if limp.kind = .main then limits.latenessMain else limits.latenessOther
        state := .armed, scheduledStart := some (t + BitVec.ofNat 32 ((d * period + 5760) / 11520))
        dueTime := none, dueCause := none, lateExpiry := none }
    let due := { r with state := .due, dueTime := some t, dueCause := some .immediate }
    let entered (rs : List Request) : State := { clamped with queue := { s.queue with
      requests := rs, depthMark := max s.queue.depthMark (s.queue.requests.length + 1) } }
    (s.fueling.state ≠ .limp ∨ effectiveMode (s.cyl c) = .cut → planLimpPosition t period i s = named) ∧
    (s.fueling.state = .limp → effectiveMode (s.cyl c) ≠ .cut → parityGood limp = false →
      planLimpPosition t period i s = raise .storeParity (.cylinder c) none (half (2 + 16)) named) ∧
    (s.fueling.state = .limp → effectiveMode (s.cyl c) ≠ .cut → parityGood limp = true →
      planLimpPosition t period i s =
        if 4 * limp.duration < limits.minPulse then noteDrop .tooShort r named
        else if 16 ≤ s.queue.requests.length then noteDrop .queueFull r clamped
        else if d = 0 then
          handOn due (entered (insertRequest due ((insertRequest r s.queue.requests).erase r)))
        else entered (insertRequest r s.queue.requests))

/-! ### Crank edges -/

/-- An active crank edge that comes sooner after the last accepted one than P̂ div 4, or than 200 tu while no prediction
is present, is rejected: the glitch counter increments, and no pulse width is measured for it. Nothing else changes;
in CAM_ONLY the last edge and the prediction are the background seek's own (R7, R25; that the pulse's start time is
state of the tracker is the model's, log 10). An active crank edge in STOPPED is accepted and enters SEEKING as the
last accepted edge with no cycle angle; the crank stall timer starts, the conflict run is 0, and the new state is
handed to the Fueling Supervisor (R9, R20, R155). An edge in SEEKING that finds no last accepted edge, the first
after a reverse, is accepted in the same way, and records nothing (R7, R8). -/
def Obligations.GlitchesAndFirstEdges : Prop :=
   (∀ (last : Time) (predicted : Option Nat) (s : State), s.running = true →
      (s.tracker.sync = .camOnly ∧ s.tracker.seek.lastEdge = some last ∧ s.tracker.seek.history.predicted = predicted ∨
        s.tracker.sync ≠ .camOnly ∧ s.tracker.sync ≠ .stopped ∧ (∃ α, s.tracker.lastEdge = some ⟨last, α⟩) ∧
          s.tracker.history.predicted = predicted) →
      (s.control.timebase - last).toNat < (match predicted with | some p => p / 4 | none => 200) →
      exec .crankActiveEdge s = .next { s with
        tracker := { s.tracker with pulseStart := none }
        notices := { s.notices with glitch := min 65535 (s.notices.glitch + 1) } }) ∧
   (∀ s : State, s.running = true →
      let pulse := if s.tracker.wheel.sensor = .directional then some s.control.timebase else none
      (s.tracker.sync = .stopped → exec .crankActiveEdge s = .next (handSync { s with tracker := { s.tracker with
        sync := .seeking, lastEdge := some ⟨s.control.timebase, none⟩, crankTimer := some s.control.timebase
        camHistory := { s.tracker.camHistory with conflictRun := 0 }, pulseStart := pulse } })) ∧
      (s.tracker.sync = .seeking → s.tracker.lastEdge = none →
        exec .crankActiveEdge s = .next { s with tracker := { s.tracker with
          lastEdge := some ⟨s.control.timebase, none⟩, crankTimer := some s.control.timebase, pulseStart := pulse } }))

/-- An accepted edge in SEEKING whose interval passes the gap test against the period before it is recorded with span M
+ 1 and enters CRANK_SYNC as tooth 0 of provisional revolution A at angle 0; any other is recorded with span 1 and
stays in SEEKING. Either way the period, the prediction and the speed are those of the interval, and the speed is
handed on (R8, R10, R30, R31, R32, R39; the speed before the sync state: log 15; the pulse's start: log 10). An
accepted edge in CRANK_SYNC, FULL_SYNC or PHASE_HELD whose gap test comes out otherwise is a gap error: counted, its
interval not recorded, the history reduced to the last period with P̂ equal to it, the tracker in SEEKING without
tooth, revolution or angle; from FULL_SYNC and PHASE_HELD the requests that do not drive are dropped as SYNC_LOST
and SYNC_LOST is raised with reason GAP_ERROR; the sync state is handed on last (R12, R20, R101, R155; the order of
drops, notice and hand-over: log 15; the pulse's start: log 10). -/
def Obligations.SeekingFindsTheGapAndAGapErrorReturns : Prop :=
   (∀ (last : Time) (α : Option Nat) (s : State), s.running = true → s.tracker.sync = .seeking →
      s.tracker.lastEdge = some ⟨last, α⟩ →
      let raw := (s.control.timebase - last).toNat
      (match s.tracker.history.predicted with | some p => p / 4 | none => 200) ≤ raw →
      let w := s.tracker.wheel.wheel
      let h := s.tracker.history
      let gap := match h.current with
        | some before => decide (2 * raw ≥ (2 * missing w + 1) * before ∧ raw ≤ (missing w + 2) * before)
        | none => false
      let p := min 4000000 (max 1 (raw / (if gap then missing w + 1 else 1)))
      let t := { s.tracker with
        lastEdge := some ⟨s.control.timebase, if gap then some 0 else none⟩
        history := { previous := h.current, current := some p, predicted := some (predict s.tracker.wheel.accel h.current p) }
        speed := min 65535 (240000000 / (pitches w * p))
        crankTimer := some s.control.timebase
        pulseStart := if s.tracker.wheel.sensor = .directional then some s.control.timebase else none }
      exec .crankActiveEdge s = .next (
        if gap then handSync (handSpeed { s with tracker := { t with
          sync := .crankSync, toothIndex := some 0, revolution := some .a } })
        else handSpeed { s with tracker := t })) ∧
   (∀ (last : Time) (α : Option Nat) (i : Nat) (s : State), s.running = true →
      s.tracker.sync = .crankSync ∨ s.tracker.sync = .fullSync ∨ s.tracker.sync = .phaseHeld →
      s.tracker.lastEdge = some ⟨last, α⟩ → s.tracker.toothIndex = some i →
      let raw := (s.control.timebase - last).toNat
      let w := s.tracker.wheel.wheel
      let h := s.tracker.history
      (match h.predicted with | some p => p / 4 | none => 200) ≤ raw →
      gapTest w raw h.current ≠ decide (i = pitches w - missing w - 1) →
      let u : State := { s with
        notices := { s.notices with gapError := min 65535 (s.notices.gapError + 1) }
        tracker := { s.tracker with
          sync := .seeking, toothIndex := none, revolution := none, lastEdge := some ⟨s.control.timebase, none⟩
          history := { previous := none, current := h.current, predicted := h.current }
          crankTimer := some s.control.timebase
          camHistory := { s.tracker.camHistory with conflictRun := 0 }
          pulseStart := if s.tracker.wheel.sensor = .directional then some s.control.timebase else none } }
      exec .crankActiveEdge s = .next (handSync (
        if s.tracker.sync = .crankSync then u else raise .syncLost .absent none 0 (dropNonDriving .syncLost u))))

/-- The predicted period: the last period alone when it has no predecessor; else the last period and the change times a
quarters, truncated toward zero, kept between half and twice the last period, and at least 1. With a = 0 it is the
last period (R32). A start delay is the offset times P̂ over TPT to the nearest tu, halves up, and 0 for no offset;
the cam-only delay is the offset times C over 11 520 in the same way. An offset within a gap of 480 cs with P̂ below
8 000 000 gives less than 2^25 tu (R34, R35, R42, R43). A cam-only delay is less than C, as R42 says, when C is
above 5760; R42's own formula gives C itself for a C of at most 5760, and the model follows the formula (log 30). -/
def Obligations.PredictionAndDelaysRoundAsStated : Prop :=
   (∀ (a p q : Nat), a ≤ 4 → 1 ≤ p → 1 ≤ q →
      predict a none p = p ∧ predict 0 (some q) p = p ∧
      (p ≥ q → predict a (some q) p = p + (p - q) * a / 4 ∧ predict a (some q) p < 2 * p) ∧
      (p < q → predict a (some q) p = max 1 (max (p / 2) (p - (q - p) * a / 4)))) ∧
   (∀ (w : Wheel) (d p c k : Nat),
      (0 < d → (startDelay w d p = k ↔
        2 * k * ticksPerTooth w ≤ 2 * d * p + ticksPerTooth w ∧ 2 * d * p + ticksPerTooth w < 2 * (k + 1) * ticksPerTooth w)) ∧
      startDelay w 0 p = 0 ∧
      (d ≤ (missing w + 1) * ticksPerTooth w → p < 8000000 → startDelay w d p < 2 ^ 25) ∧
      (camDelay d c = k ↔ 23040 * k ≤ 2 * d * c + 11520 ∧ 2 * d * c + 11520 < 23040 * (k + 1)) ∧
      (d ≤ 11519 → 2 ≤ c → camDelay d c ≤ c) ∧
      (d ≤ 11519 → 5760 < c → camDelay d c < c))

/-- An accepted crank edge in CRANK_SYNC, FULL_SYNC or PHASE_HELD whose gap test comes out as the tooth count expects:
the tooth index advances, or the gap ends at tooth 0 and the revolution changes; the angle is the revolution's base
plus the index times TPT; the interval is recorded; at the window close outside CRANK_SYNC the window flag is read
and cleared, a clear flag in FULL_SYNC counting a missing window, the second of which enters PHASE_HELD and raises
CAM_MISSING. Then the results are handed over in order: the speed; outside CRANK_SYNC the origin event, at tooth 0
of revolution A; and the tooth event, the queue's own work and then the firing positions in increasing order.
Whether CAM_MISSING comes before or after these is free (log 11); the pulse's start is the model's (log 10) (R8,
R11, R13, R14, R19, R48, R95). -/
def Obligations.CountedEdgeAdvancesTheTooth : Prop :=
  ∀ (last : Time) (α₀ i : Nat) (r : Revolution) (s : State), s.running = true →
    s.tracker.sync = .crankSync ∨ s.tracker.sync = .fullSync ∨ s.tracker.sync = .phaseHeld →
    s.tracker.lastEdge = some ⟨last, some α₀⟩ → s.tracker.toothIndex = some i → s.tracker.revolution = some r →
    let raw := (s.control.timebase - last).toNat
    let w := s.tracker.wheel.wheel
    let h := s.tracker.history
    (match h.predicted with | some p => p / 4 | none => 200) ≤ raw →
    let gap := decide (i = pitches w - missing w - 1)
    gapTest w raw h.current = gap →
    let j := if gap then 0 else i + 1
    let rev : Revolution := if gap then (match r with | .a => .b | .b => .a) else r
    let span := if gap then missing w + 1 else 1
    let α := (match rev with | .a => 0 | .b => 5760) + j * (5760 / pitches w)
    let p := min 4000000 (max 1 (raw / span))
    let κ := (s.tracker.cam.gamma + s.tracker.cam.halfWidth + 1) % 11520
    let closes := s.tracker.sync ≠ .crankSync ∧ inInterval α₀ (span * (5760 / pitches w)) κ = true
    let c := s.tracker.camHistory
    let missed := closes ∧ c.windowFlag = false ∧ s.tracker.sync = .fullSync
    let next : Tracker := { s.tracker with
      toothIndex := some j, revolution := some rev, lastEdge := some ⟨s.control.timebase, some α⟩
      history := { previous := h.current, current := some p, predicted := some (predict s.tracker.wheel.accel h.current p) }
      speed := min 65535 (240000000 / (pitches w * p))
      crankTimer := some s.control.timebase
      pulseStart := if s.tracker.wheel.sensor = .directional then some s.control.timebase else none
      camHistory := { c with
        windowFlag := if closes then false else c.windowFlag
        missingRun := if missed then (if 1 ≤ c.missingRun then 2 else c.missingRun + 1) else c.missingRun }
      sync := if missed ∧ 1 ≤ c.missingRun then .phaseHeld else s.tracker.sync }
    let origin := s.tracker.sync ≠ .crankSync ∧ j = 0 ∧ rev = .a
    let event : ToothEvent :=
      { time := s.control.timebase, angle := α, spanBefore := span
        spanNext := if j = pitches w - missing w - 1 then missing w + 1 else 1
        predicted := predict s.tracker.wheel.accel h.current p }
    let publish (v : State) : State :=
      [0, 1, 2, 3, 4, 5, 6, 7].foldl (fun q k => planPosition event k q)
        (queueTooth event (if origin then originEvent (handSpeed v) else handSpeed v))
    let held (v : State) : State := handSync (raise .camMissing .absent none 2 v)
    ∃ t : State, exec .crankActiveEdge s = .next t ∧
      t = (let u : State := { s with tracker := next }
        if s.tracker.sync = .crankSync then handSpeed u
        else if missed ∧ 1 ≤ c.missingRun then
          if Config.camMissingFirst = true then publish (held u) else held (publish u)
        else publish u) ∧
      t.tracker = { next with cycle := if origin then s.tracker.cycle + 1 else s.tracker.cycle } ∧
      t.link = s.link ∧ t.pins = s.pins ∧ t.control = s.control ∧ t.pending = s.pending

/-- An accepted crank edge in CAM_ONLY feeds the background seek: its first edge only starts it; an interval that fails
the gap test is recorded in the seek's own history with span 1, with no speed and no hand-over; one that passes is
tooth 0 of the revolution the cam-based estimate gives. Then the tracker is in FULL_SYNC with the seek's history,
the window flag set, both runs 0 and the seek empty; the SYNC_LOST drops, SYNC_GAINED and the sync state handed on
follow (log 15); a window close in the gap finds the flag set and clears it (log 12); and the speed, the origin
event when the revolution is A, and the tooth event follow. The pulse's start is the model's (log 10) (R8, R13, R14,
R19, R23, R101). -/
def Obligations.BackgroundSeekReturnsToFullSync : Prop :=
  ∀ (s : State), s.running = true → s.tracker.sync = .camOnly →
    let k := s.tracker.seek
    let w := s.tracker.wheel.wheel
    let pulse := if s.tracker.wheel.sensor = .directional then some s.control.timebase else none
    (k.lastEdge = none → exec .crankActiveEdge s = .next { s with tracker := { s.tracker with
      seek := { k with lastEdge := some s.control.timebase }, crankTimer := some s.control.timebase, pulseStart := pulse } }) ∧
    (∀ last, k.lastEdge = some last →
      let raw := (s.control.timebase - last).toNat
      (match k.history.predicted with | some p => p / 4 | none => 200) ≤ raw →
      (gapTest w raw k.history.current = false →
        let p := min 4000000 (max 1 raw)
        exec .crankActiveEdge s = .next { s with tracker := { s.tracker with
          seek := { lastEdge := some s.control.timebase
                    history := { previous := k.history.current, current := some p
                                 predicted := some (predict s.tracker.wheel.accel k.history.current p) } }
          crankTimer := some s.control.timebase, pulseStart := pulse } }) ∧
      (gapTest w raw k.history.current = true → ∀ cam period, s.tracker.camHistory.lastEdge = some cam →
        s.tracker.camHistory.period = some period →
        let estimate := camEstimate s.tracker.cam.gamma period cam s.control.timebase
        let rev : Revolution := if estimate < 2880 ∨ estimate ≥ 8640 then .a else .b
        let α := match rev with | .a => 0 | .b => 5760
        let p := min 4000000 (max 1 (raw / (missing w + 1)))
        let length := (missing w + 1) * (5760 / pitches w)
        let κ := (s.tracker.cam.gamma + s.tracker.cam.halfWidth + 1) % 11520
        let closes := inInterval ((α + 11520 - length) % 11520) length κ
        let sure (flag : Bool) : CamHistory :=
          { s.tracker.camHistory with windowFlag := flag, missingRun := 0, conflictRun := 0 }
        let next : Tracker := { s.tracker with
          sync := .fullSync, toothIndex := some 0, revolution := some rev
          lastEdge := some ⟨s.control.timebase, some α⟩
          history := { previous := k.history.current, current := some p
                       predicted := some (predict s.tracker.wheel.accel k.history.current p) }
          speed := min 65535 (240000000 / (pitches w * p))
          seek := { lastEdge := none, history := { previous := none, current := none, predicted := none } }
          camHistory := sure true, crankTimer := some s.control.timebase, pulseStart := pulse }
        let event : ToothEvent :=
          { time := s.control.timebase, angle := α, spanBefore := missing w + 1, spanNext := 1
            predicted := predict s.tracker.wheel.accel k.history.current p }
        ∃ t : State, exec .crankActiveEdge s = .next t ∧
          t = (let u := handSync (raise .syncGained .absent none 5 (dropNonDriving .syncLost { s with tracker := next }))
            let v := handSpeed { u with tracker := { next with camHistory := sure (!closes) } }
            [0, 1, 2, 3, 4, 5, 6, 7].foldl (fun q j => planPosition event j q)
              (queueTooth event (if rev = .a then originEvent v else v))) ∧
          t.tracker = { next with
            camHistory := sure (!closes), cycle := if rev = .a then s.tracker.cycle + 1 else s.tracker.cycle } ∧
          t.link = s.link ∧ t.pins = s.pins ∧ t.control = s.control))

/-- A crank trailing edge in RUN: with no pulse measured nothing happens; a width below the direction threshold, or a
reverse edge in STOPPED, only ends the measurement. A width at or above it in any other sync state aborts every
driving pulse and empties the queue: the outputs of the aborted pulses go off, a bank whose pulse was in BOOST
recharges from now, each end is recorded now and completes a pending flush, and each request counts as REVERSE with
its notice, the driving ones first; the tracker is left in SEEKING with its edge, periods, tooth, revolution and
background seek emptied, its conflict run 0 (log 13) and the stall timer running from now; and REVERSE is raised
with the state left, before the state is handed on (log 15). The pulse's start is the model's (log 10) (R25, R26,
R100, R101, R139, R141). -/
def Obligations.ReverseEdgeEmptiesTheQueue : Prop :=
  ∀ s : State, s.running = true →
    (s.tracker.pulseStart = none → exec .crankTrailingEdge s = .next s) ∧
    (∀ start, s.tracker.pulseStart = some start →
      ((s.control.timebase - start).toNat < s.tracker.wheel.dirThreshold ∨ s.tracker.sync = .stopped →
        exec .crankTrailingEdge s = .next { s with tracker := { s.tracker with pulseStart := none } }) ∧
      (s.tracker.wheel.dirThreshold ≤ (s.control.timebase - start).toNat → s.tracker.sync ≠ .stopped →
        let drives := s.queue.requests.filter (fun r => driving r.state)
        let others := s.queue.requests.filter (fun r => !driving r.state)
        ∃ t v : State, exec .crankTrailingEdge s = .next t ∧
          t = handSync (raise .reverse .absent none (half (syncCode s.tracker.sync)) v) ∧
          v.queue = { s.queue with requests := [] } ∧
          v.tracker = { s.tracker with
            sync := .seeking, lastEdge := none, toothIndex := none, revolution := none, pulseStart := none
            history := { previous := none, current := none, predicted := none }
            seek := { lastEdge := none, history := { previous := none, current := none, predicted := none } }
            camHistory := { s.tracker.camHistory with conflictRun := 0 }
            crankTimer := some s.control.timebase } ∧
          (∀ x, v.drive x = if ∃ r ∈ drives, r.bank = x then
              { s.drive x with
                boostOut := false, holdOut := false, pulse := none
                charge := if ∃ r ∈ drives, r.bank = x ∧ r.state = .boost then
                  .charging (some (s.control.timebase + BitVec.ofNat 32 s.queue.limits.recharge)) else (s.drive x).charge }
            else s.drive x) ∧
          (∀ c, v.sel.get c = (s.sel.get c && !drives.any (fun r => r.cylinder == c)) ∧
            v.cyl c = if ∃ r ∈ drives, r.cylinder = c then
              { s.cyl c with lastEnd := some s.control.timebase, flushPending := false } else s.cyl c) ∧
          v.notices = (others.foldl (fun u r => noteDrop .reverse r u) (drives.foldl
            (fun u r => noteDrop .reverse r (reportEnd r.cylinder s.control.timebase 2 u)) s)).notices ∧
          (∀ q, v.notices.dropCounts[reasonCode q] = if q = .reverse ∧ s.queue.requests ≠ [] then
            min 65535 (s.notices.dropCounts[reasonCode q] + s.queue.requests.length)
            else s.notices.dropCounts[reasonCode q]) ∧
          v.table = { s.table with cyls := v.table.cyls } ∧
          v.link = s.link ∧ v.store = s.store ∧ v.fueling = s.fueling ∧ v.control = s.control ∧ v.pins = s.pins))

/-! ### Stalls and cam edges -/

/-- CRANK_STALL after the stall time. From SEEKING and CRANK_SYNC, and from FULL_SYNC and PHASE_HELD when the cam period
is not valid or the last cam edge not younger than the cam stall time, the tracker is STOPPED with everything of the
running state absent and speed 0; from the latter two SYNC_LOST drops and SYNC_LOST with reason STALL come first.
With a fresh cam period FULL_SYNC and PHASE_HELD enter CAM_ONLY: SYNC_LOST drops, CRANK_LOST with the cam-only
speed, then the speed and the sync state handed on. In CAM_ONLY only the background seek is emptied (R21, R41, R155;
the order of drops, notice and hand-over: log 15; the crank side kept, with its timer stopped: log 18). CAM_STALL
after the cam stall time: in CAM_ONLY the SYNC_LOST drops, SYNC_LOST with reason CAM_STALL, and the entry to
STOPPED; in every other sync state the last cam edge and the cam period become absent and nothing else changes but
the timer (R15, R21, R24; the order: log 15). -/
def Obligations.StallsStopOrGoCamOnly : Prop :=
   (∀ (timer : Time) (s : State), s.running = true → s.tracker.crankTimer = some timer →
      s.tracker.wheel.stallTime ≤ (s.control.timebase - timer).toNat →
      let stops (u : State) : State := handSync (handSpeed { u with tracker := { u.tracker with
        sync := .stopped, toothIndex := none, revolution := none, lastEdge := none, speed := 0
        history := { previous := none, current := none, predicted := none }
        camHistory := { lastEdge := none, period := none, missingRun := 0, conflictRun := 0, windowFlag := false }
        crankTimer := none, camTimer := none } })
      let fresh := match s.tracker.camHistory.lastEdge, s.tracker.camHistory.period with
        | some e, some c => if (s.control.timebase - e).toNat < s.tracker.cam.stallTime then some c else none
        | _, _ => none
      exec .crankStall s = .next (
        match s.tracker.sync with
        | .seeking | .crankSync => stops s
        | .fullSync | .phaseHeld =>
          match fresh with
          | none => stops (raise .syncLost .absent none 1 (dropNonDriving .syncLost s))
          | some c =>
            let speed := min 65535 (480000000 / c)
            let u : State := { s with tracker := { s.tracker with
              sync := .camOnly, crankTimer := none, speed := speed
              seek := { lastEdge := none, history := { previous := none, current := none, predicted := none } } } }
            handSync (handSpeed (raise .crankLost .absent none (half speed) (dropNonDriving .syncLost u)))
        | .camOnly => { s with tracker := { s.tracker with
            crankTimer := none
            seek := { lastEdge := none, history := { previous := none, current := none, predicted := none } } } }
        | .stopped => { s with tracker := { s.tracker with crankTimer := none } })) ∧
   (∀ (timer : Time) (s : State), s.running = true → s.tracker.camTimer = some timer →
      s.tracker.cam.stallTime ≤ (s.control.timebase - timer).toNat →
      exec .camStall s = .next (
        if s.tracker.sync = .camOnly then
          let u := raise .syncLost .absent none 2 (dropNonDriving .syncLost s)
          handSync (handSpeed { u with tracker := { u.tracker with
            sync := .stopped, toothIndex := none, revolution := none, lastEdge := none, speed := 0
            history := { previous := none, current := none, predicted := none }
            camHistory := { lastEdge := none, period := none, missingRun := 0, conflictRun := 0, windowFlag := false }
            crankTimer := none, camTimer := none } })
        else { s with tracker := { s.tracker with
          camTimer := none, camHistory := { s.tracker.camHistory with lastEdge := none, period := none } } }))

/-- A cam edge outside CAM_ONLY: the cam period becomes the difference from the last cam edge, at least 1, the edge the
last one, and the cam stall timer restarts. In STOPPED and SEEKING that is all. In CRANK_SYNC an edge in the window
on the revolution angle enters FULL_SYNC, the revolution exchanged when the edge is not in the correct window; in
FULL_SYNC and PHASE_HELD an edge in the correct window confirms, one in the opposite window is a conflict, the
second of which flips the phase and then confirms; any other counts as cam noise (R15, R16, R17, R18, R20, R36, R40;
SYNC_GAINED before the hand-over: log 15). -/
def Obligations.CamEdgePlacesThePhase : Prop :=
  ∀ (s : State), s.running = true → s.tracker.sync ≠ .camOnly →
    let u : State := { s with tracker := { s.tracker with
      camTimer := some s.control.timebase
      camHistory := { s.tracker.camHistory with
        lastEdge := some s.control.timebase
        period := match s.tracker.camHistory.lastEdge with
          | some e => some (max 1 (s.control.timebase - e).toNat)
          | none => s.tracker.camHistory.period } } }
    let noise : State := { u with notices := { u.notices with camNoise := min 65535 (u.notices.camNoise + 1) } }
    let sure : CamHistory := { u.tracker.camHistory with windowFlag := true, missingRun := 0, conflictRun := 0 }
    let flipped : Tracker := { u.tracker with
      revolution := u.tracker.revolution.map (fun r => match r with | .a => .b | .b => .a)
      lastEdge := u.tracker.lastEdge.map (fun e => { e with angle := e.angle.map (fun α => (α + 5760) % 11520) }) }
    (s.tracker.sync = .stopped ∨ s.tracker.sync = .seeking → exec .camEdge s = .next u) ∧
    (∀ t α p, s.tracker.lastEdge = some ⟨t, some α⟩ → s.tracker.history.predicted = some p →
      let i := s.tracker.toothIndex.getD 0
      let w := s.tracker.wheel.wheel
      let θ := crankEstimate w α t (spanAfter w i) p s.control.timebase
      let γ : Int := s.tracker.cam.gamma
      let h : Int := s.tracker.cam.halfWidth
      let correct := ((θ : Int) - (γ - h)) % 11520 ≤ (2 * h) % 11520
      let opposite := ((θ : Int) - (γ + 5760 - h)) % 11520 ≤ (2 * h) % 11520
      let revolves := ((θ : Int) % 5760 - (γ % 5760 - h)) % 5760 ≤ (2 * h) % 5760
      (s.tracker.sync = .crankSync → exec .camEdge s = .next (
        if revolves then
          handSync (raise .syncGained .absent none 2 { u with tracker :=
            { (if correct then u.tracker else flipped) with sync := .fullSync, camHistory := sure } })
        else noise)) ∧
      (s.tracker.sync = .fullSync ∨ s.tracker.sync = .phaseHeld → exec .camEdge s = .next (
        let confirm (v : State) : State :=
          if s.tracker.sync = .fullSync then { v with tracker := { v.tracker with camHistory := sure } }
          else handSync (raise .syncGained .absent none 4 { v with tracker :=
            { v.tracker with sync := .fullSync, camHistory := sure } })
        let v : State := { u with notices := { u.notices with camConflict := min 65535 (u.notices.camConflict + 1) } }
        if correct then confirm u
        else if opposite then
          if 1 ≤ s.tracker.camHistory.conflictRun then
            confirm (raise .phaseFlip .absent none (half (match flipped.revolution with | some .b => 1 | _ => 0))
              (dropNonDriving .phaseFlip { v with tracker :=
                { flipped with camHistory := { flipped.camHistory with conflictRun := 0 } } }))
          else { v with tracker := { v.tracker with camHistory :=
            { v.tracker.camHistory with conflictRun := s.tracker.camHistory.conflictRun + 1 } } }
        else noise)))

/-- A cam edge in CAM_ONLY less than C div 2 after the last counts as cam noise and is otherwise ignored; any other
makes C the difference from the last, at least 1, restarts the cam stall timer and sets the cam-only speed. Then its
results are handed over in order: the speed; the origin event, with which the cycle number advances; the queue's own
work, which makes every ARMED request DUE at the edge as a prediction miss; and every firing position of the ring,
in increasing order, named and planned from the limp plan (R14, R22, R40, R41, R50, R92, R93). -/
def Obligations.CamEdgeInCamOnlyIsAnOrigin : Prop :=
  ∀ (last : Time) (c : Nat) (s : State), s.running = true → s.tracker.sync = .camOnly →
    s.tracker.camHistory.lastEdge = some last → s.tracker.camHistory.period = some c →
    ((s.control.timebase - last).toNat < c / 2 → exec .camEdge s = .next { s with
      notices := { s.notices with camNoise := min 65535 (s.notices.camNoise + 1) } }) ∧
    (c / 2 ≤ (s.control.timebase - last).toNat → s.table.ring.length ≤ 8 →
      let period := max 1 (s.control.timebase - last).toNat
      let next : Tracker := { s.tracker with
        camHistory := { s.tracker.camHistory with lastEdge := some s.control.timebase, period := some period }
        camTimer := some s.control.timebase, speed := min 65535 (480000000 / period) }
      ∃ t : State, exec .camEdge s = .next t ∧
        t = [0, 1, 2, 3, 4, 5, 6, 7].foldl (fun u i => planLimpPosition s.control.timebase period i u)
          (queueCam s.control.timebase (originEvent (handSpeed { s with tracker := next }))) ∧
        t.tracker = { next with cycle := s.tracker.cycle + 1 } ∧
        (∀ x, (t.cyl x).cyclePlanned = s.table.ring.any (fun e => e.cylinder == x)) ∧
        (∀ r ∈ t.queue.requests, r.state = .armed → r.cycle = s.tracker.cycle + 1) ∧
        t.link = s.link ∧ t.control = s.control ∧ t.pins = s.pins)

/-! ### Modes, resets and the clock -/

/-- ENTER_STANDBY completes in RUN: WRONG_STATE with the set of failed conditions unless the state is DISARMED, the
tracker STOPPED and no flush pending; else the mode is STANDBY, or, with the WAKE source enabled and WAKE high,
WARMUP with the source BOUNCE, the link is emptied and its timer made idle, and the reply is 0 or 1. Every driving
pulse is ended, bank A's before bank B's (log 17): its outputs off, its end recorded at this instant, its request
dropped as ABORTED with its count and notice. No recharge starts and no auction runs, and the rest of the queue
stays (R177, R195, R196, R100). -/
def Obligations.EnterStandbyEndsPulsesAndLeavesRun : Prop :=
  ∀ (tag : Byte) (s : State), s.running = true →
    let flush := allCylinders.any (fun c => (s.cyl c).flushPending)
    let fails := bit (decide (s.fueling.state ≠ .disarmed)) + 2 * bit (decide (s.tracker.sync ≠ .stopped)) + 4 * bit flush
    (fails ≠ 0 → exec (.enterStandby tag []) s = .next (answered s .wrongState tag [byte fails])) ∧
    (fails = 0 →
      let bounce := s.control.wakeEnables.wakeLevel && s.pins.wake
      ∃ t : State, exec (.enterStandby tag []) s = .next t ∧
        t.control = (if bounce then { s.control with
            mode := .warmup, timebase := 0, refCount := 0, wakeSource := some .bounce
            warmupLeft := warmupTu s.control.warmupSel }
          else { s.control with mode := .standby }) ∧
        t.link = { s.link with
          rx := [], rxCount := 0, turnaround := none, lastTag := tag
          reply := { status := .ok, tag := tag, payload := [if bounce then 1 else 0] } } ∧
        t.store = s.store ∧ t.tracker = s.tracker ∧ t.fueling = s.fueling ∧ t.pins = s.pins ∧
        (OutputsFollow s →
          let ends := drivers .a s ++ drivers .b s
          t.queue = { s.queue with requests := s.queue.requests.filter (fun r => !driving r.state) } ∧
          t.sel = .all false ∧
          (∀ x, t.drive x = { s.drive x with boostOut := false, holdOut := false, pulse := none }) ∧
          t.table = { s.table with cyls := t.table.cyls } ∧
          (∀ c, t.cyl c = if ∃ r ∈ s.queue.requests, r.cylinder = c ∧ driving r.state = true then
            { s.cyl c with lastEnd := some s.control.timebase } else s.cyl c) ∧
          t.notices = (ends.foldl (fun u o => noteDrop .aborted o u) s).notices ∧
          (∀ q, t.notices.dropCounts[reasonCode q] = if q = .aborted ∧ ends ≠ [] then
            min 65535 (s.notices.dropCounts[reasonCode q] + ends.length) else s.notices.dropCounts[reasonCode q])))

/-- SET_WAKE replaces the wake enables and the warm-up selection; a selection above 3, a set naming a source beyond the
three, and an empty set are refused with BAD_VALUE and change nothing (R194, R203). In STANDBY a crank transition of
either polarity and a rise of WAKE move the mode to WARMUP when their source is enabled, with the timebase and the
reference count at 0, the selected warm-up to run, and the source recorded; a disabled source, and a source in
WARMUP, does nothing but that the level of WAKE is taken (R191, R196, R197, R198; that the row carries a level and a
low one is only recorded: log 5; that nothing else happens in WARMUP: log 24). -/
def Obligations.WakeSettingsAndSources : Prop :=
   (∀ (tag e w : Byte) (s : State), s.running = true →
      exec (.setWake tag [e, w]) s = .next (
        if 3 < w.toNat ∨ 7 < e.toNat ∨ e = 0 then answered s .badValue tag []
        else answered { s with control := { s.control with
          wakeEnables := { crankEdge := e.getLsbD 0, chipSelect := e.getLsbD 1, wakeLevel := e.getLsbD 2 }
          warmupSel := if w = 0 then .us128 else if w = 1 then .us512 else if w = 2 then .ms2 else .ms8 } } .ok tag [])) ∧
   (∀ (high : Bool) (s : State), s.running = false →
      let wakes (source : WakeSource) (u : State) : State := { u with control := { u.control with
        mode := .warmup, timebase := 0, refCount := 0, wakeSource := some source
        warmupLeft := (match u.control.warmupSel with | .us128 => 512 | .us512 => 2048 | .ms2 => 8000 | .ms8 => 32000) } }
      let crank := if s.control.mode = .standby ∧ s.control.wakeEnables.crankEdge = true then wakes .crankEdge s else s
      let level : State := { s with pins := { s.pins with wake := high } }
      exec .crankActiveEdge s = .next crank ∧ exec .crankTrailingEdge s = .next crank ∧
      exec (.wakeLevelRise high) s = .next (
        if s.control.mode = .standby ∧ high = true ∧ s.control.wakeEnables.wakeLevel = true then wakes .wakeLevel level
        else level))

/-- The clock monitor in RUN and WARMUP: a cycle of 0.75 to 1.25 of 62.5 ns adds one to the reference-return count, up
to 1024, any other and a missing edge set it to 0. In RUN a bad cycle on REFERENCE switches to FALLBACK, raises
CLOCK_LOSS with detail 0 and hands the switch over, and a count reaching 1024 on FALLBACK switches to REFERENCE and
hands it over; in STANDBY, and while RESET_N is low, nothing is monitored (R154, R193). The length's unit, ps, is
the model's (log 22). -/
def Obligations.ClockMonitorSwitchesTheSource : Prop :=
  ∀ (ps : Nat) (s : State),
    let count (n : Nat) : State := { s with control := { s.control with refCount := n } }
    let switch (n : Nat) (c : ClockSource) : State := { s with
      control := { s.control with refCount := n, clock := c } }
    let cut (b : Bool) (u : State) : State :=
      deriveFueling .clock { u with fueling := { u.fueling with clockCut := b } }
    let bad : State :=
      if s.running = true ∧ s.control.clock = .reference then
        cut true (raise .clockLoss .absent none 0 (switch 0 .fallback))
      else count 0
    let n := min 1024 (s.control.refCount + 1)
    let good : State :=
      if s.running = true ∧ s.control.clock = .fallback ∧ n = 1024 then cut false (switch n .reference) else count n
    (s.control.mode ≠ .standby → s.pins.resetLow = false →
      exec (.refclkCycle ps) s = .next (if 46875 ≤ ps ∧ ps ≤ 78125 then good else bad) ∧
      exec .refclkMissing s = .next bad) ∧
    (s.control.mode = .standby ∨ s.pins.resetLow = true →
      exec (.refclkCycle ps) s = .next s ∧ exec .refclkMissing s = .next s)

/-- RESET_N low holds the part in reset in every mode: every block at its pin-reset value, the notice queue empty and
ALERT_N released, all outputs off; the input pins keep their levels. RESET_N rising, in whatever state it comes (log
9), is the reset state: RESET raised with POWER_ON and timestamp 0, and the warm-up of 2 ms begun, on the clock
source REFERENCE (log 8) (R175, R190, R199). The end of a warm-up, whatever is left of its time when its row comes
(log 6): the source is REFERENCE exactly when the count stands at 1024, and the clock-cut flag matches; the mode is
RUN and the timebase 0; after a wake or bounce the tracker is STOPPED with its settings and cycle number, the queue,
the last ends, the flush-pending and cycle-planned flags and the outputs are cleared and WAKE raised with its
source; then CLOCK_LOSS with detail 1 on FALLBACK, and BANK_SHORT for each unlocked bank whose SHORT_x is asserted,
now locked, A before B (log 17). The supervisor is DISARMED when it was not armed; the store, the limits and the
captures are kept (R3, R44, R83, R108, R126, R198). -/
def Obligations.PinResetAndWarmupEndStartTheRun : Prop :=
   (∀ (s : State),
      exec .resetNLow s = .next { State.reset with
        notices := { State.reset.notices with queue := [], kindCounts := Vector.replicate 19 0, alert := false }
        pins := { s.pins with resetLow := true }, freeIndex := s.freeIndex, pending := s.pending } ∧
      exec .resetNRise s = .next { State.reset with
        pins := { s.pins with resetLow := false }, freeIndex := s.freeIndex, pending := s.pending }) ∧
   (∀ (s : State), s.control.mode = .warmup → s.pins.resetLow = false →
      let source : ClockSource := if s.control.refCount = 1024 then .reference else .fallback
      let woke := s.control.wakeSource.isSome
      ∃ t : State, exec .warmupEnd s = .next t ∧
        t.control = { s.control with
          mode := .run, timebase := 0, clock := source, warmupLeft := 0, wakeSource := none } ∧
        t.fueling.clockCut = decide (source = .fallback) ∧ t.fueling.armed = s.fueling.armed ∧
        t.store = s.store ∧ t.queue.captures = s.queue.captures ∧ t.queue.limits = s.queue.limits ∧ t.pins = s.pins ∧
        (∀ x, (t.drive x).locked = ((s.drive x).locked || s.shortLevel x) ∧ (t.drive x).tree = (s.drive x).tree) ∧
        (woke = false → t.tracker = s.tracker ∧ t.link = s.link ∧ t.table = s.table ∧
          t.queue.requests = s.queue.requests) ∧
        (woke = true →
          t.tracker = { State.reset.tracker with
            wheel := s.tracker.wheel, cam := s.tracker.cam, cycle := s.tracker.cycle } ∧
          t.queue.requests = [] ∧ t.sel = .all false ∧ t.fueling.state = .disarmed ∧
          (∀ x, (t.drive x).charge = .ready ∧ (t.drive x).boostOut = false ∧ (t.drive x).holdOut = false ∧
            (t.drive x).pulse = none) ∧
          (∀ c, t.cyl c = { s.cyl c with flushPending := false, lastEnd := none, cyclePlanned := false }) ∧
          t.link = { s.link with rx := [], rxCount := 0, turnaround := none }) ∧
        (s.notices.queue.length ≤ 28 → s.notices.mask.getLsbD 17 = true →
          let wake : List (NoticeKind × Subject × Half) := match s.control.wakeSource with
            | some w => [(.wake, .absent, half (match w with
                | .crankEdge => 0 | .chipSelect => 1 | .wakeLevel => 2 | .bounce => 3))]
            | none => []
          let loss : List (NoticeKind × Subject × Half) := if source = .fallback then [(.clockLoss, .absent, 1)] else []
          let short (x : Bank) : List (NoticeKind × Subject × Half) :=
            if s.shortLevel x && !(s.drive x).locked then [(.bankShort, .bank x, 0xFFFF)] else []
          t.notices.queue = s.notices.queue ++ (wake ++ loss ++ short .a ++ short .b).map
            (fun n => { kind := n.1, subject := n.2.1, cycle := s.tracker.cycle, detail := n.2.2, timestamp := 0 })))

/-- SOFT_RESET completes in RUN: every driving pulse is aborted, counted as ABORTED without a notice, its end recorded
at this instant; the queue is emptied without further counts; each block takes its soft-reset value; the notice
queue then holds RESET with detail SOFT and, behind it, BANK_SHORT for each bank whose SHORT_x is asserted, A before
B (log 17), the only banks locked, and no other kind is raised; the reply is FRESH with the frame's tag and the
turnaround timer runs; settings, ring, plans, limits, captures, mode control and the mask are kept (R3, R44, R61,
R83, R105, R108, R126, R143, R148, R176, R178, R190). -/
def Obligations.SoftResetTakesTheSoftValues : Prop :=
  ∀ (tag : Byte) (s : State), s.running = true →
    let drives := s.queue.requests.filter (fun r => driving r.state)
    let next : Tracker := { State.reset.tracker with
      wheel := s.tracker.wheel, cam := s.tracker.cam, cycle := s.tracker.cycle }
    ∃ (t : State) (counts : Vector Nat 9), exec (.softReset tag []) s = .next t ∧
      t.link = { s.link with
        rx := [], rxCount := 0, turnaround := some (s.control.timebase + 16), lastTag := tag
        reply := { status := .fresh, tag := tag, payload := [] } } ∧
      t.tracker = next ∧
      t.store = { s.store with pendingSwap := none, age := 0 } ∧
      t.queue = { s.queue with requests := [] } ∧
      (∀ x, t.drive x = { charge := .ready, locked := s.shortLevel x, tree := Tree.lower, waitMark := (s.drive x).waitMark
                          boostOut := false, holdOut := false, pulse := none }) ∧
      t.sel = .all false ∧
      t.fueling = { s.fueling with
        armed := false, hostCut := false, overspeed := false, clockCut := decide (s.control.clock = .fallback)
        expired := false, lastSpeed := 0, lastSync := .stopped, lastAge := 0, state := .disarmed } ∧
      t.table = { s.table with cyls := t.table.cyls } ∧
      (∀ c, (t.cyl c).hostMode = (s.cyl c).hostMode ∧ (t.cyl c).masked = (s.cyl c).masked ∧ (t.cyl c).failures = 0 ∧
        (t.cyl c).flushPending = false ∧ (t.cyl c).cyclePlanned = false) ∧
      (OutputsFollow s → ∀ c, (t.cyl c).lastEnd =
        if ∃ r ∈ drives, r.cylinder = c then some s.control.timebase else (s.cyl c).lastEnd) ∧
      (OutputsFollow s → ∀ q, counts[reasonCode q] = if q = .aborted ∧ drives ≠ [] then
        min 65535 (s.notices.dropCounts[reasonCode q] + drives.length) else s.notices.dropCounts[reasonCode q]) ∧
      t.notices = (
        let short (x : Bank) (u : State) : State :=
          if s.shortLevel x then raise .bankShort (.bank x) (some x) 0xFFFF u else u
        short .b (short .a (raise .reset .absent none 1 { s with
          tracker := next
          notices := { s.notices with dropCounts := counts, queue := [], alert := false } }))).notices ∧
      (∀ k, t.notices.kindCounts[noticeCode k] =
        if k = .reset then min 65535 (s.notices.kindCounts[noticeCode k] + 1)
        else if k = .bankShort ∧ (s.pins.shortA || s.pins.shortB) then
          min 65535 (s.notices.kindCounts[noticeCode k] + bit s.pins.shortA + bit s.pins.shortB)
        else s.notices.kindCounts[noticeCode k]) ∧
      t.control = s.control ∧ t.pins = s.pins ∧ t.notices.mask = s.notices.mask ∧
      t.notices.queue.map (fun n => (n.kind, n.subject, n.detail)) =
        (.reset, .absent, 1) :: ((if s.pins.shortA then [(.bankShort, .bank .a, 0xFFFF)] else []) ++
          (if s.pins.shortB then [(.bankShort, .bank .b, 0xFFFF)] else []))

/-! ### Invariants -/

/-- The reset state is sound: bounded, its outputs off, the fueling state the derived one, its plans in order, its
timers within their limits, its queue in order and without twins (R61, R62, R85, R86, R108, R148, R163, R178, R181,
R191). -/
def Obligations.ResetStateIsSound : Prop := soundState State.reset

/-- Every step keeps the bounds: 32 notices with ALERT_N asserted exactly while one waits, 16 requests, the depth mark,
the plan age, the receive buffer, the reference count and the failure counts (R44, R75, R83, R85, R163, R181, R182,
R191). -/
def Obligations.EveryStepKeepsTheBounds : Prop :=
  ∀ s t : State, Bounded s → step s = .next t → Bounded t

/-- Every step keeps the outputs following the driving requests: at most one occupant for each bank and one driving
request for each cylinder, BOOST_x and HOLD_x on exactly in BOOST and HOLD, a pulse record exactly while a bank is
occupied, SELn exactly while the cylinder drives, and nothing driven outside RUN (R112, R129, R130, R195, R199). -/
def Obligations.EveryStepKeepsOutputsFollowing : Prop :=
  ∀ s t : State, OutputsFollow s → step s = .next t → OutputsFollow t

/-- Every step keeps the fueling state the derived one, with the supervisor holding the tracker's speed and sync state,
the store's age and the clock source, and the part disarmed outside RUN (R76, R148, R154, R155, R156, R157, R195). -/
def Obligations.EveryStepKeepsTheFuelingStateDerived : Prop :=
  ∀ s t : State, Supervised s → step s = .next t → Supervised t

/-- At reset and after every step every stored plan is in order and in range under the plan lead in force: kinds in kind
order, starts strictly increasing, at most one entry of each kind, and the limp plan in range (R62). -/
def Obligations.PlansStayInOrder : Prop :=
  PlansInOrder State.reset ∧ ∀ s t : State, PlansInOrder s → step s = .next t → PlansInOrder t

/-- Every step keeps the timers within their limits: periods and predictions within R30 and R32, a cam period and a last
cam edge within the cam stall time, no ARMED request whose start has passed, every DUE request in its waiting set
and within its lateness limit, requests that do not drive only while the fueling state injects, and none outside
RUN. The premise is the invariant of EveryStepKeepsOutputsFollowing (R15, R24, R30, R32, R35, R94, R102, R110, R120,
R195; that time waits for the expiries that are due is the model's, log 1). -/
def Obligations.EveryStepKeepsTheTimersTimely : Prop :=
  ∀ s t : State, OutputsFollow s → Timely s → step s = .next t → Timely t

/-- Every step keeps the requests in queue order. The premise, under which DUE times compare as R1 compares them, is the
invariant of EveryStepKeepsTheTimersTimely (R86, R95). -/
def Obligations.EveryStepKeepsTheQueueOrder : Prop :=
  ∀ s t : State, Timely s → InQueueOrder s → step s = .next t → InQueueOrder t

/-- Every step keeps each cylinder, kind and cycle number to one request, by R85's reason: a plan holds a kind once
(R62), and a cylinder is planned once under a cycle number. The cycle number wraps, so the next one must not still
be borne by a request; with that premise and the invariant of PlansStayInOrder it holds of every state (R48, R62,
R85). -/
def Obligations.EveryStepKeepsRequestsApart : Prop :=
  ∀ s t : State, PlansInOrder s → (∀ r ∈ s.queue.requests, r.cycle ≠ s.tracker.cycle + 1) → NoTwins s →
    step s = .next t → NoTwins t
end

