-- ==== Sys2Proof/Laws/State.lean ====
section
/-! SUPPORT. One lemma for each field and each update of the state, true by definition, so that no later proof
unfolds a record update. -/

namespace Sys2Proof.Machine

/-! ### One thing for each cylinder -/

@[simp] theorem Eight.get_set_same {α : Type} (e : Eight α) (c : Cylinder) (x : α) : (e.set c x).get c = x := by
  cases c <;> rfl

theorem Eight.get_set_other {α : Type} (e : Eight α) {c d : Cylinder} (x : α) (h : d ≠ c) :
    (e.set c x).get d = e.get d := by
  cases c <;> cases d <;> first | rfl | exact absurd rfl h

@[simp] theorem Eight.get_all {α : Type} (x : α) (c : Cylinder) : (Eight.all x).get c = x := by cases c <;> rfl

@[simp] theorem Eight.get_map {α β : Type} (f : α → β) (e : Eight α) (c : Cylinder) :
    (e.map f).get c = f (e.get c) := by cases c <;> rfl

theorem mem_allCylinders (c : Cylinder) : c ∈ allCylinders := by cases c <;> simp [allCylinders]

/-! ### setLink -/

@[simp] theorem State.setLink_link (s : State) (l : FramePort) : (s.setLink l).link = l := rfl
@[simp] theorem State.setLink_tracker (s : State) (l : FramePort) : (s.setLink l).tracker = s.tracker := rfl
@[simp] theorem State.setLink_table (s : State) (l : FramePort) : (s.setLink l).table = s.table := rfl
@[simp] theorem State.setLink_store (s : State) (l : FramePort) : (s.setLink l).store = s.store := rfl
@[simp] theorem State.setLink_queue (s : State) (l : FramePort) : (s.setLink l).queue = s.queue := rfl
@[simp] theorem State.setLink_driveA (s : State) (l : FramePort) : (s.setLink l).driveA = s.driveA := rfl
@[simp] theorem State.setLink_driveB (s : State) (l : FramePort) : (s.setLink l).driveB = s.driveB := rfl
@[simp] theorem State.setLink_sel (s : State) (l : FramePort) : (s.setLink l).sel = s.sel := rfl
@[simp] theorem State.setLink_fueling (s : State) (l : FramePort) : (s.setLink l).fueling = s.fueling := rfl
@[simp] theorem State.setLink_notices (s : State) (l : FramePort) : (s.setLink l).notices = s.notices := rfl
@[simp] theorem State.setLink_control (s : State) (l : FramePort) : (s.setLink l).control = s.control := rfl
@[simp] theorem State.setLink_pins (s : State) (l : FramePort) : (s.setLink l).pins = s.pins := rfl
@[simp] theorem State.setLink_freeIndex (s : State) (l : FramePort) : (s.setLink l).freeIndex = s.freeIndex := rfl
@[simp] theorem State.setLink_pending (s : State) (l : FramePort) : (s.setLink l).pending = s.pending := rfl

/-! ### setTracker -/

@[simp] theorem State.setTracker_link (s : State) (t : Tracker) : (s.setTracker t).link = s.link := rfl
@[simp] theorem State.setTracker_tracker (s : State) (t : Tracker) : (s.setTracker t).tracker = t := rfl
@[simp] theorem State.setTracker_table (s : State) (t : Tracker) : (s.setTracker t).table = s.table := rfl
@[simp] theorem State.setTracker_store (s : State) (t : Tracker) : (s.setTracker t).store = s.store := rfl
@[simp] theorem State.setTracker_queue (s : State) (t : Tracker) : (s.setTracker t).queue = s.queue := rfl
@[simp] theorem State.setTracker_driveA (s : State) (t : Tracker) : (s.setTracker t).driveA = s.driveA := rfl
@[simp] theorem State.setTracker_driveB (s : State) (t : Tracker) : (s.setTracker t).driveB = s.driveB := rfl
@[simp] theorem State.setTracker_sel (s : State) (t : Tracker) : (s.setTracker t).sel = s.sel := rfl
@[simp] theorem State.setTracker_fueling (s : State) (t : Tracker) : (s.setTracker t).fueling = s.fueling := rfl
@[simp] theorem State.setTracker_notices (s : State) (t : Tracker) : (s.setTracker t).notices = s.notices := rfl
@[simp] theorem State.setTracker_control (s : State) (t : Tracker) : (s.setTracker t).control = s.control := rfl
@[simp] theorem State.setTracker_pins (s : State) (t : Tracker) : (s.setTracker t).pins = s.pins := rfl
@[simp] theorem State.setTracker_freeIndex (s : State) (t : Tracker) : (s.setTracker t).freeIndex = s.freeIndex := rfl
@[simp] theorem State.setTracker_pending (s : State) (t : Tracker) : (s.setTracker t).pending = s.pending := rfl

/-! ### setStore -/

@[simp] theorem State.setStore_link (s : State) (t : Store) : (s.setStore t).link = s.link := rfl
@[simp] theorem State.setStore_tracker (s : State) (t : Store) : (s.setStore t).tracker = s.tracker := rfl
@[simp] theorem State.setStore_table (s : State) (t : Store) : (s.setStore t).table = s.table := rfl
@[simp] theorem State.setStore_store (s : State) (t : Store) : (s.setStore t).store = t := rfl
@[simp] theorem State.setStore_queue (s : State) (t : Store) : (s.setStore t).queue = s.queue := rfl
@[simp] theorem State.setStore_driveA (s : State) (t : Store) : (s.setStore t).driveA = s.driveA := rfl
@[simp] theorem State.setStore_driveB (s : State) (t : Store) : (s.setStore t).driveB = s.driveB := rfl
@[simp] theorem State.setStore_sel (s : State) (t : Store) : (s.setStore t).sel = s.sel := rfl
@[simp] theorem State.setStore_fueling (s : State) (t : Store) : (s.setStore t).fueling = s.fueling := rfl
@[simp] theorem State.setStore_notices (s : State) (t : Store) : (s.setStore t).notices = s.notices := rfl
@[simp] theorem State.setStore_control (s : State) (t : Store) : (s.setStore t).control = s.control := rfl
@[simp] theorem State.setStore_pins (s : State) (t : Store) : (s.setStore t).pins = s.pins := rfl
@[simp] theorem State.setStore_freeIndex (s : State) (t : Store) : (s.setStore t).freeIndex = s.freeIndex := rfl
@[simp] theorem State.setStore_pending (s : State) (t : Store) : (s.setStore t).pending = s.pending := rfl

/-! ### setFueling -/

@[simp] theorem State.setFueling_link (s : State) (f : Fueling) : (s.setFueling f).link = s.link := rfl
@[simp] theorem State.setFueling_tracker (s : State) (f : Fueling) : (s.setFueling f).tracker = s.tracker := rfl
@[simp] theorem State.setFueling_table (s : State) (f : Fueling) : (s.setFueling f).table = s.table := rfl
@[simp] theorem State.setFueling_store (s : State) (f : Fueling) : (s.setFueling f).store = s.store := rfl
@[simp] theorem State.setFueling_queue (s : State) (f : Fueling) : (s.setFueling f).queue = s.queue := rfl
@[simp] theorem State.setFueling_driveA (s : State) (f : Fueling) : (s.setFueling f).driveA = s.driveA := rfl
@[simp] theorem State.setFueling_driveB (s : State) (f : Fueling) : (s.setFueling f).driveB = s.driveB := rfl
@[simp] theorem State.setFueling_sel (s : State) (f : Fueling) : (s.setFueling f).sel = s.sel := rfl
@[simp] theorem State.setFueling_fueling (s : State) (f : Fueling) : (s.setFueling f).fueling = f := rfl
@[simp] theorem State.setFueling_notices (s : State) (f : Fueling) : (s.setFueling f).notices = s.notices := rfl
@[simp] theorem State.setFueling_control (s : State) (f : Fueling) : (s.setFueling f).control = s.control := rfl
@[simp] theorem State.setFueling_pins (s : State) (f : Fueling) : (s.setFueling f).pins = s.pins := rfl
@[simp] theorem State.setFueling_freeIndex (s : State) (f : Fueling) : (s.setFueling f).freeIndex = s.freeIndex := rfl
@[simp] theorem State.setFueling_pending (s : State) (f : Fueling) : (s.setFueling f).pending = s.pending := rfl

/-! ### setNotices -/

@[simp] theorem State.setNotices_link (s : State) (u : NoticeUnit) : (s.setNotices u).link = s.link := rfl
@[simp] theorem State.setNotices_tracker (s : State) (u : NoticeUnit) : (s.setNotices u).tracker = s.tracker := rfl
@[simp] theorem State.setNotices_table (s : State) (u : NoticeUnit) : (s.setNotices u).table = s.table := rfl
@[simp] theorem State.setNotices_store (s : State) (u : NoticeUnit) : (s.setNotices u).store = s.store := rfl
@[simp] theorem State.setNotices_queue (s : State) (u : NoticeUnit) : (s.setNotices u).queue = s.queue := rfl
@[simp] theorem State.setNotices_driveA (s : State) (u : NoticeUnit) : (s.setNotices u).driveA = s.driveA := rfl
@[simp] theorem State.setNotices_driveB (s : State) (u : NoticeUnit) : (s.setNotices u).driveB = s.driveB := rfl
@[simp] theorem State.setNotices_sel (s : State) (u : NoticeUnit) : (s.setNotices u).sel = s.sel := rfl
@[simp] theorem State.setNotices_fueling (s : State) (u : NoticeUnit) : (s.setNotices u).fueling = s.fueling := rfl
@[simp] theorem State.setNotices_notices (s : State) (u : NoticeUnit) : (s.setNotices u).notices = u := rfl
@[simp] theorem State.setNotices_control (s : State) (u : NoticeUnit) : (s.setNotices u).control = s.control := rfl
@[simp] theorem State.setNotices_pins (s : State) (u : NoticeUnit) : (s.setNotices u).pins = s.pins := rfl
@[simp] theorem State.setNotices_freeIndex (s : State) (u : NoticeUnit) : (s.setNotices u).freeIndex = s.freeIndex := rfl
@[simp] theorem State.setNotices_pending (s : State) (u : NoticeUnit) : (s.setNotices u).pending = s.pending := rfl

/-! ### setControl -/

@[simp] theorem State.setControl_link (s : State) (c : Control) : (s.setControl c).link = s.link := rfl
@[simp] theorem State.setControl_tracker (s : State) (c : Control) : (s.setControl c).tracker = s.tracker := rfl
@[simp] theorem State.setControl_table (s : State) (c : Control) : (s.setControl c).table = s.table := rfl
@[simp] theorem State.setControl_store (s : State) (c : Control) : (s.setControl c).store = s.store := rfl
@[simp] theorem State.setControl_queue (s : State) (c : Control) : (s.setControl c).queue = s.queue := rfl
@[simp] theorem State.setControl_driveA (s : State) (c : Control) : (s.setControl c).driveA = s.driveA := rfl
@[simp] theorem State.setControl_driveB (s : State) (c : Control) : (s.setControl c).driveB = s.driveB := rfl
@[simp] theorem State.setControl_sel (s : State) (c : Control) : (s.setControl c).sel = s.sel := rfl
@[simp] theorem State.setControl_fueling (s : State) (c : Control) : (s.setControl c).fueling = s.fueling := rfl
@[simp] theorem State.setControl_notices (s : State) (c : Control) : (s.setControl c).notices = s.notices := rfl
@[simp] theorem State.setControl_control (s : State) (c : Control) : (s.setControl c).control = c := rfl
@[simp] theorem State.setControl_pins (s : State) (c : Control) : (s.setControl c).pins = s.pins := rfl
@[simp] theorem State.setControl_freeIndex (s : State) (c : Control) : (s.setControl c).freeIndex = s.freeIndex := rfl
@[simp] theorem State.setControl_pending (s : State) (c : Control) : (s.setControl c).pending = s.pending := rfl

/-! ### setRequests -/

@[simp] theorem State.setRequests_link (s : State) (rs : List Request) : (s.setRequests rs).link = s.link := rfl
@[simp] theorem State.setRequests_tracker (s : State) (rs : List Request) : (s.setRequests rs).tracker = s.tracker := rfl
@[simp] theorem State.setRequests_table (s : State) (rs : List Request) : (s.setRequests rs).table = s.table := rfl
@[simp] theorem State.setRequests_store (s : State) (rs : List Request) : (s.setRequests rs).store = s.store := rfl
@[simp] theorem State.setRequests_queue (s : State) (rs : List Request) : (s.setRequests rs).queue = { s.queue with requests := rs } := rfl
@[simp] theorem State.setRequests_driveA (s : State) (rs : List Request) : (s.setRequests rs).driveA = s.driveA := rfl
@[simp] theorem State.setRequests_driveB (s : State) (rs : List Request) : (s.setRequests rs).driveB = s.driveB := rfl
@[simp] theorem State.setRequests_sel (s : State) (rs : List Request) : (s.setRequests rs).sel = s.sel := rfl
@[simp] theorem State.setRequests_fueling (s : State) (rs : List Request) : (s.setRequests rs).fueling = s.fueling := rfl
@[simp] theorem State.setRequests_notices (s : State) (rs : List Request) : (s.setRequests rs).notices = s.notices := rfl
@[simp] theorem State.setRequests_control (s : State) (rs : List Request) : (s.setRequests rs).control = s.control := rfl
@[simp] theorem State.setRequests_pins (s : State) (rs : List Request) : (s.setRequests rs).pins = s.pins := rfl
@[simp] theorem State.setRequests_freeIndex (s : State) (rs : List Request) : (s.setRequests rs).freeIndex = s.freeIndex := rfl
@[simp] theorem State.setRequests_pending (s : State) (rs : List Request) : (s.setRequests rs).pending = s.pending := rfl

/-! ### setCyl -/

@[simp] theorem State.setCyl_link (s : State) (c : Cylinder) (k : CylState) : (s.setCyl c k).link = s.link := rfl
@[simp] theorem State.setCyl_tracker (s : State) (c : Cylinder) (k : CylState) : (s.setCyl c k).tracker = s.tracker := rfl
@[simp] theorem State.setCyl_table (s : State) (c : Cylinder) (k : CylState) : (s.setCyl c k).table = { s.table with cyls := s.table.cyls.set c k } := rfl
@[simp] theorem State.setCyl_store (s : State) (c : Cylinder) (k : CylState) : (s.setCyl c k).store = s.store := rfl
@[simp] theorem State.setCyl_queue (s : State) (c : Cylinder) (k : CylState) : (s.setCyl c k).queue = s.queue := rfl
@[simp] theorem State.setCyl_driveA (s : State) (c : Cylinder) (k : CylState) : (s.setCyl c k).driveA = s.driveA := rfl
@[simp] theorem State.setCyl_driveB (s : State) (c : Cylinder) (k : CylState) : (s.setCyl c k).driveB = s.driveB := rfl
@[simp] theorem State.setCyl_sel (s : State) (c : Cylinder) (k : CylState) : (s.setCyl c k).sel = s.sel := rfl
@[simp] theorem State.setCyl_fueling (s : State) (c : Cylinder) (k : CylState) : (s.setCyl c k).fueling = s.fueling := rfl
@[simp] theorem State.setCyl_notices (s : State) (c : Cylinder) (k : CylState) : (s.setCyl c k).notices = s.notices := rfl
@[simp] theorem State.setCyl_control (s : State) (c : Cylinder) (k : CylState) : (s.setCyl c k).control = s.control := rfl
@[simp] theorem State.setCyl_pins (s : State) (c : Cylinder) (k : CylState) : (s.setCyl c k).pins = s.pins := rfl
@[simp] theorem State.setCyl_freeIndex (s : State) (c : Cylinder) (k : CylState) : (s.setCyl c k).freeIndex = s.freeIndex := rfl
@[simp] theorem State.setCyl_pending (s : State) (c : Cylinder) (k : CylState) : (s.setCyl c k).pending = s.pending := rfl

/-! ### setDrive -/

@[simp] theorem State.setDrive_link (s : State) (x : Bank) (d : DriveBank) : (s.setDrive x d).link = s.link := by
  cases x <;> rfl
@[simp] theorem State.setDrive_tracker (s : State) (x : Bank) (d : DriveBank) : (s.setDrive x d).tracker = s.tracker := by
  cases x <;> rfl
@[simp] theorem State.setDrive_table (s : State) (x : Bank) (d : DriveBank) : (s.setDrive x d).table = s.table := by
  cases x <;> rfl
@[simp] theorem State.setDrive_store (s : State) (x : Bank) (d : DriveBank) : (s.setDrive x d).store = s.store := by
  cases x <;> rfl
@[simp] theorem State.setDrive_queue (s : State) (x : Bank) (d : DriveBank) : (s.setDrive x d).queue = s.queue := by
  cases x <;> rfl
@[simp] theorem State.setDrive_sel (s : State) (x : Bank) (d : DriveBank) : (s.setDrive x d).sel = s.sel := by
  cases x <;> rfl
@[simp] theorem State.setDrive_fueling (s : State) (x : Bank) (d : DriveBank) : (s.setDrive x d).fueling = s.fueling := by
  cases x <;> rfl
@[simp] theorem State.setDrive_notices (s : State) (x : Bank) (d : DriveBank) : (s.setDrive x d).notices = s.notices := by
  cases x <;> rfl
@[simp] theorem State.setDrive_control (s : State) (x : Bank) (d : DriveBank) : (s.setDrive x d).control = s.control := by
  cases x <;> rfl
@[simp] theorem State.setDrive_pins (s : State) (x : Bank) (d : DriveBank) : (s.setDrive x d).pins = s.pins := by
  cases x <;> rfl
@[simp] theorem State.setDrive_freeIndex (s : State) (x : Bank) (d : DriveBank) : (s.setDrive x d).freeIndex = s.freeIndex := by
  cases x <;> rfl
@[simp] theorem State.setDrive_pending (s : State) (x : Bank) (d : DriveBank) : (s.setDrive x d).pending = s.pending := by
  cases x <;> rfl

/-! ### setShort -/

@[simp] theorem State.setShort_link (s : State) (x : Bank) (b : Bool) : (s.setShort x b).link = s.link := by
  cases x <;> rfl
@[simp] theorem State.setShort_tracker (s : State) (x : Bank) (b : Bool) : (s.setShort x b).tracker = s.tracker := by
  cases x <;> rfl
@[simp] theorem State.setShort_table (s : State) (x : Bank) (b : Bool) : (s.setShort x b).table = s.table := by
  cases x <;> rfl
@[simp] theorem State.setShort_store (s : State) (x : Bank) (b : Bool) : (s.setShort x b).store = s.store := by
  cases x <;> rfl
@[simp] theorem State.setShort_queue (s : State) (x : Bank) (b : Bool) : (s.setShort x b).queue = s.queue := by
  cases x <;> rfl
@[simp] theorem State.setShort_driveA (s : State) (x : Bank) (b : Bool) : (s.setShort x b).driveA = s.driveA := by
  cases x <;> rfl
@[simp] theorem State.setShort_driveB (s : State) (x : Bank) (b : Bool) : (s.setShort x b).driveB = s.driveB := by
  cases x <;> rfl
@[simp] theorem State.setShort_sel (s : State) (x : Bank) (b : Bool) : (s.setShort x b).sel = s.sel := by
  cases x <;> rfl
@[simp] theorem State.setShort_fueling (s : State) (x : Bank) (b : Bool) : (s.setShort x b).fueling = s.fueling := by
  cases x <;> rfl
@[simp] theorem State.setShort_notices (s : State) (x : Bank) (b : Bool) : (s.setShort x b).notices = s.notices := by
  cases x <;> rfl
@[simp] theorem State.setShort_control (s : State) (x : Bank) (b : Bool) : (s.setShort x b).control = s.control := by
  cases x <;> rfl
@[simp] theorem State.setShort_freeIndex (s : State) (x : Bank) (b : Bool) : (s.setShort x b).freeIndex = s.freeIndex := by
  cases x <;> rfl
@[simp] theorem State.setShort_pending (s : State) (x : Bank) (b : Bool) : (s.setShort x b).pending = s.pending := by
  cases x <;> rfl

/-! ### Reading back -/

@[simp] theorem State.drive_setDrive_same (s : State) (x : Bank) (d : DriveBank) : (s.setDrive x d).drive x = d := by
  cases x <;> rfl

theorem State.drive_setDrive_other (s : State) {x y : Bank} (d : DriveBank) (h : y ≠ x) :
    (s.setDrive x d).drive y = s.drive y := by
  cases x <;> cases y <;> first | rfl | exact absurd rfl h

@[simp] theorem State.cyl_setCyl_same (s : State) (c : Cylinder) (k : CylState) : (s.setCyl c k).cyl c = k := by
  simp [State.cyl]

theorem State.cyl_setCyl_other (s : State) {c d : Cylinder} (k : CylState) (h : d ≠ c) :
    (s.setCyl c k).cyl d = s.cyl d := by
  simp only [State.cyl, State.setCyl_table]; exact Eight.get_set_other _ _ h

@[simp] theorem State.setRequests_now (s : State) (rs : List Request) : (s.setRequests rs).now = s.now := rfl
@[simp] theorem State.setRequests_running (s : State) (rs : List Request) : (s.setRequests rs).running = s.running := rfl
@[simp] theorem State.setRequests_cyl (s : State) (rs : List Request) (i : Cylinder) : (s.setRequests rs).cyl i = s.cyl i := rfl
@[simp] theorem State.setRequests_drive (s : State) (rs : List Request) (y : Bank) : (s.setRequests rs).drive y = s.drive y := by cases y <;> rfl
@[simp] theorem State.setCyl_now (s : State) (c : Cylinder) (k : CylState) : (s.setCyl c k).now = s.now := rfl
@[simp] theorem State.setCyl_running (s : State) (c : Cylinder) (k : CylState) : (s.setCyl c k).running = s.running := rfl
@[simp] theorem State.setCyl_drive (s : State) (c : Cylinder) (k : CylState) (y : Bank) : (s.setCyl c k).drive y = s.drive y := by cases y <;> rfl
@[simp] theorem State.setDrive_now (s : State) (x : Bank) (d : DriveBank) : (s.setDrive x d).now = s.now := by cases x <;> rfl
@[simp] theorem State.setDrive_running (s : State) (x : Bank) (d : DriveBank) : (s.setDrive x d).running = s.running := by cases x <;> rfl
@[simp] theorem State.setDrive_cyl (s : State) (x : Bank) (d : DriveBank) (i : Cylinder) : (s.setDrive x d).cyl i = s.cyl i := by cases x <;> rfl
@[simp] theorem State.setLink_now (s : State) (l : FramePort) : (s.setLink l).now = s.now := rfl
@[simp] theorem State.setLink_running (s : State) (l : FramePort) : (s.setLink l).running = s.running := rfl
@[simp] theorem State.setLink_cyl (s : State) (l : FramePort) (i : Cylinder) : (s.setLink l).cyl i = s.cyl i := rfl
@[simp] theorem State.setLink_drive (s : State) (l : FramePort) (y : Bank) : (s.setLink l).drive y = s.drive y := by cases y <;> rfl
@[simp] theorem State.setTracker_now (s : State) (t : Tracker) : (s.setTracker t).now = s.now := rfl
@[simp] theorem State.setTracker_running (s : State) (t : Tracker) : (s.setTracker t).running = s.running := rfl
@[simp] theorem State.setTracker_cyl (s : State) (t : Tracker) (i : Cylinder) : (s.setTracker t).cyl i = s.cyl i := rfl
@[simp] theorem State.setTracker_drive (s : State) (t : Tracker) (y : Bank) : (s.setTracker t).drive y = s.drive y := by cases y <;> rfl
@[simp] theorem State.setStore_now (s : State) (t : Store) : (s.setStore t).now = s.now := rfl
@[simp] theorem State.setStore_running (s : State) (t : Store) : (s.setStore t).running = s.running := rfl
@[simp] theorem State.setStore_cyl (s : State) (t : Store) (i : Cylinder) : (s.setStore t).cyl i = s.cyl i := rfl
@[simp] theorem State.setStore_drive (s : State) (t : Store) (y : Bank) : (s.setStore t).drive y = s.drive y := by cases y <;> rfl
@[simp] theorem State.setFueling_now (s : State) (f : Fueling) : (s.setFueling f).now = s.now := rfl
@[simp] theorem State.setFueling_running (s : State) (f : Fueling) : (s.setFueling f).running = s.running := rfl
@[simp] theorem State.setFueling_cyl (s : State) (f : Fueling) (i : Cylinder) : (s.setFueling f).cyl i = s.cyl i := rfl
@[simp] theorem State.setFueling_drive (s : State) (f : Fueling) (y : Bank) : (s.setFueling f).drive y = s.drive y := by cases y <;> rfl
@[simp] theorem State.setNotices_now (s : State) (u : NoticeUnit) : (s.setNotices u).now = s.now := rfl
@[simp] theorem State.setNotices_running (s : State) (u : NoticeUnit) : (s.setNotices u).running = s.running := rfl
@[simp] theorem State.setNotices_cyl (s : State) (u : NoticeUnit) (i : Cylinder) : (s.setNotices u).cyl i = s.cyl i := rfl
@[simp] theorem State.setNotices_drive (s : State) (u : NoticeUnit) (y : Bank) : (s.setNotices u).drive y = s.drive y := by cases y <;> rfl

end Sys2Proof.Machine
end

