-- ==== Sys2Proof/Laws/Notices.lean ====
section
/-! SUPPORT. What raising a notice and counting can do: they change the Notice Unit alone (R181, R185), and a
raise keeps the bound of the notice queue and ALERT_N (R181, R182). -/

namespace Sys2Proof.Machine

open Sys2Proof.Safety

/-! ### Raising -/

/-- A raise changes the Notice Unit alone. -/
theorem raiseAt_frame (stamp : Time) (k : NoticeKind) (sub : Subject) (b : Option Bank) (d : Half) (s : State) :
    raiseAt stamp k sub b d s = s.setNotices (raiseAt stamp k sub b d s).notices := rfl

theorem raise_frame (k : NoticeKind) (sub : Subject) (b : Option Bank) (d : Half) (s : State) :
    raise k sub b d s = s.setNotices (raise k sub b d s).notices := rfl

/-- What an offer does to the queue: a notice that is offered joins while there is room (R181). -/
theorem NoticeUnit.offer_queue (u : NoticeUnit) (n : Notice) :
    (u.offer n).queue = if offered u.mask n.kind = true ∧ u.queue.length < 32 then u.queue ++ [n] else u.queue := by
  unfold NoticeUnit.offer
  by_cases h : offered u.mask n.kind = true <;> by_cases g : u.queue.length < 32 <;> simp [h, g]

/-- ALERT_N after an offer: asserted when the notice enters, else as it was (R182). -/
theorem NoticeUnit.offer_alert (u : NoticeUnit) (n : Notice) :
    (u.offer n).alert = if offered u.mask n.kind = true ∧ u.queue.length < 32 then true else u.alert := by
  unfold NoticeUnit.offer
  by_cases h : offered u.mask n.kind = true <;> by_cases g : u.queue.length < 32 <;> simp [h, g]

@[simp] theorem NoticeUnit.record_queue (u : NoticeUnit) (f : FirstFault) : (u.record f).queue = u.queue := by
  unfold NoticeUnit.record; split <;> rfl

@[simp] theorem NoticeUnit.record_alert (u : NoticeUnit) (f : FirstFault) : (u.record f).alert = u.alert := by
  unfold NoticeUnit.record; split <;> rfl

@[simp] theorem NoticeUnit.record_mask (u : NoticeUnit) (f : FirstFault) : (u.record f).mask = u.mask := by
  unfold NoticeUnit.record; split <;> rfl

/-- The notice queue is within its bound and ALERT_N follows it (R181, R182). -/
def NoticeUnit.Sound (u : NoticeUnit) : Prop := u.queue.length ≤ 32 ∧ u.alert = !u.queue.isEmpty

/-- A raise keeps the bound and ALERT_N. -/
theorem raiseAt_sound (stamp : Time) (k : NoticeKind) (sub : Subject) (b : Option Bank) (d : Half) (s : State)
    (h : s.notices.Sound) : (raiseAt stamp k sub b d s).notices.Sound := by
  obtain ⟨h1, h2⟩ := h
  have key : ∀ (u : NoticeUnit) (n : Notice), u.Sound → (u.offer n).Sound := by
    intro u n hu
    unfold NoticeUnit.offer
    split
    · split
      · refine ⟨?_, by simp⟩
        simp only [List.length_append, List.length_singleton]
        omega
      · exact hu
    · exact hu
  exact key _ _ ⟨by simpa [NoticeUnit.count] using h1, by simpa [NoticeUnit.count] using h2⟩

theorem raise_sound (k : NoticeKind) (sub : Subject) (b : Option Bank) (d : Half) (s : State)
    (h : s.notices.Sound) : (raise k sub b d s).notices.Sound := raiseAt_sound _ _ _ _ _ _ h

/-! ### Counting -/

theorem countDrop_frame (r : DropReason) (s : State) :
    countDrop r s = s.setNotices (countDrop r s).notices := rfl

theorem countDrop_sound (r : DropReason) (s : State) (h : s.notices.Sound) : (countDrop r s).notices.Sound := h

/-- One drop is counted under its reason and under no other (R185). -/
theorem countDrop_counts (r q : DropReason) (s : State) :
    (countDrop r s).notices.dropCounts[reasonCode q] =
      if q = r then inc16 s.notices.dropCounts[reasonCode r] else s.notices.dropCounts[reasonCode q] := by
  cases r <;> cases q <;> simp [countDrop, reasonCode]

/-- A drop's count and notice change the Notice Unit alone (R100). -/
theorem noteDrop_frame (q : DropReason) (r : Request) (s : State) :
    noteDrop q r s = s.setNotices (noteDrop q r s).notices := rfl

theorem noteDrop_sound (q : DropReason) (r : Request) (s : State) (h : s.notices.Sound) :
    (noteDrop q r s).notices.Sound := raise_sound _ _ _ _ _ (countDrop_sound q s h)

/-! ### The fault record (R188) -/

/-- A fault kind is in the summary after it is raised, with every kind that was there. -/
theorem raiseAt_summary (stamp : Time) (k : NoticeKind) (sub : Subject) (b : Option Bank) (d : Half) (s : State)
    (p : Fin 8) (hp : faultPosition k = some p) :
    (raiseAt stamp k sub b d s).notices.summary = s.notices.summary ||| faultBit p := by
  simp only [raiseAt, NoticeUnit.offer, NoticeUnit.record, hp]
  split
  · split <;> rfl
  · rfl

/-- A report kind leaves the fault record as it is. -/
theorem raiseAt_report (stamp : Time) (k : NoticeKind) (sub : Subject) (b : Option Bank) (d : Half) (s : State)
    (hp : faultPosition k = none) :
    (raiseAt stamp k sub b d s).notices.summary = s.notices.summary ∧
      (raiseAt stamp k sub b d s).notices.first = s.notices.first := by
  simp only [raiseAt, NoticeUnit.offer, NoticeUnit.record, hp]
  split
  · split <;> exact ⟨rfl, rfl⟩
  · exact ⟨rfl, rfl⟩

/-! ### Fields untouched -/

@[simp] theorem raiseAt_link (st : Time) (k : NoticeKind) (u : Subject) (b : Option Bank) (d : Half) (s : State) : (raiseAt st k u b d s).link = s.link := rfl
@[simp] theorem raiseAt_tracker (st : Time) (k : NoticeKind) (u : Subject) (b : Option Bank) (d : Half) (s : State) : (raiseAt st k u b d s).tracker = s.tracker := rfl
@[simp] theorem raiseAt_table (st : Time) (k : NoticeKind) (u : Subject) (b : Option Bank) (d : Half) (s : State) : (raiseAt st k u b d s).table = s.table := rfl
@[simp] theorem raiseAt_store (st : Time) (k : NoticeKind) (u : Subject) (b : Option Bank) (d : Half) (s : State) : (raiseAt st k u b d s).store = s.store := rfl
@[simp] theorem raiseAt_queue (st : Time) (k : NoticeKind) (u : Subject) (b : Option Bank) (d : Half) (s : State) : (raiseAt st k u b d s).queue = s.queue := rfl
@[simp] theorem raiseAt_driveA (st : Time) (k : NoticeKind) (u : Subject) (b : Option Bank) (d : Half) (s : State) : (raiseAt st k u b d s).driveA = s.driveA := rfl
@[simp] theorem raiseAt_driveB (st : Time) (k : NoticeKind) (u : Subject) (b : Option Bank) (d : Half) (s : State) : (raiseAt st k u b d s).driveB = s.driveB := rfl
@[simp] theorem raiseAt_sel (st : Time) (k : NoticeKind) (u : Subject) (b : Option Bank) (d : Half) (s : State) : (raiseAt st k u b d s).sel = s.sel := rfl
@[simp] theorem raiseAt_fueling (st : Time) (k : NoticeKind) (u : Subject) (b : Option Bank) (d : Half) (s : State) : (raiseAt st k u b d s).fueling = s.fueling := rfl
@[simp] theorem raiseAt_control (st : Time) (k : NoticeKind) (u : Subject) (b : Option Bank) (d : Half) (s : State) : (raiseAt st k u b d s).control = s.control := rfl
@[simp] theorem raiseAt_pins (st : Time) (k : NoticeKind) (u : Subject) (b : Option Bank) (d : Half) (s : State) : (raiseAt st k u b d s).pins = s.pins := rfl
@[simp] theorem raiseAt_freeIndex (st : Time) (k : NoticeKind) (u : Subject) (b : Option Bank) (d : Half) (s : State) : (raiseAt st k u b d s).freeIndex = s.freeIndex := rfl
@[simp] theorem raiseAt_pending (st : Time) (k : NoticeKind) (u : Subject) (b : Option Bank) (d : Half) (s : State) : (raiseAt st k u b d s).pending = s.pending := rfl
@[simp] theorem raiseAt_now (st : Time) (k : NoticeKind) (u : Subject) (b : Option Bank) (d : Half) (s : State) : (raiseAt st k u b d s).now = s.now := rfl
@[simp] theorem raiseAt_running (st : Time) (k : NoticeKind) (u : Subject) (b : Option Bank) (d : Half) (s : State) : (raiseAt st k u b d s).running = s.running := rfl
@[simp] theorem raiseAt_cyl (st : Time) (k : NoticeKind) (u : Subject) (b : Option Bank) (d : Half) (s : State) (c : Cylinder) : (raiseAt st k u b d s).cyl c = s.cyl c := rfl
@[simp] theorem raiseAt_drive (st : Time) (k : NoticeKind) (u : Subject) (b : Option Bank) (d : Half) (s : State) (x : Bank) : (raiseAt st k u b d s).drive x = s.drive x := by cases x <;> rfl

@[simp] theorem raise_link (k : NoticeKind) (u : Subject) (b : Option Bank) (d : Half) (s : State) : (raise k u b d s).link = s.link := rfl
@[simp] theorem raise_tracker (k : NoticeKind) (u : Subject) (b : Option Bank) (d : Half) (s : State) : (raise k u b d s).tracker = s.tracker := rfl
@[simp] theorem raise_table (k : NoticeKind) (u : Subject) (b : Option Bank) (d : Half) (s : State) : (raise k u b d s).table = s.table := rfl
@[simp] theorem raise_store (k : NoticeKind) (u : Subject) (b : Option Bank) (d : Half) (s : State) : (raise k u b d s).store = s.store := rfl
@[simp] theorem raise_queue (k : NoticeKind) (u : Subject) (b : Option Bank) (d : Half) (s : State) : (raise k u b d s).queue = s.queue := rfl
@[simp] theorem raise_driveA (k : NoticeKind) (u : Subject) (b : Option Bank) (d : Half) (s : State) : (raise k u b d s).driveA = s.driveA := rfl
@[simp] theorem raise_driveB (k : NoticeKind) (u : Subject) (b : Option Bank) (d : Half) (s : State) : (raise k u b d s).driveB = s.driveB := rfl
@[simp] theorem raise_sel (k : NoticeKind) (u : Subject) (b : Option Bank) (d : Half) (s : State) : (raise k u b d s).sel = s.sel := rfl
@[simp] theorem raise_fueling (k : NoticeKind) (u : Subject) (b : Option Bank) (d : Half) (s : State) : (raise k u b d s).fueling = s.fueling := rfl
@[simp] theorem raise_control (k : NoticeKind) (u : Subject) (b : Option Bank) (d : Half) (s : State) : (raise k u b d s).control = s.control := rfl
@[simp] theorem raise_pins (k : NoticeKind) (u : Subject) (b : Option Bank) (d : Half) (s : State) : (raise k u b d s).pins = s.pins := rfl
@[simp] theorem raise_freeIndex (k : NoticeKind) (u : Subject) (b : Option Bank) (d : Half) (s : State) : (raise k u b d s).freeIndex = s.freeIndex := rfl
@[simp] theorem raise_pending (k : NoticeKind) (u : Subject) (b : Option Bank) (d : Half) (s : State) : (raise k u b d s).pending = s.pending := rfl
@[simp] theorem raise_now (k : NoticeKind) (u : Subject) (b : Option Bank) (d : Half) (s : State) : (raise k u b d s).now = s.now := rfl
@[simp] theorem raise_running (k : NoticeKind) (u : Subject) (b : Option Bank) (d : Half) (s : State) : (raise k u b d s).running = s.running := rfl
@[simp] theorem raise_cyl (k : NoticeKind) (u : Subject) (b : Option Bank) (d : Half) (s : State) (c : Cylinder) : (raise k u b d s).cyl c = s.cyl c := rfl
@[simp] theorem raise_drive (k : NoticeKind) (u : Subject) (b : Option Bank) (d : Half) (s : State) (x : Bank) : (raise k u b d s).drive x = s.drive x := by cases x <;> rfl

@[simp] theorem noteDrop_link (q : DropReason) (r : Request) (s : State) : (noteDrop q r s).link = s.link := rfl
@[simp] theorem noteDrop_tracker (q : DropReason) (r : Request) (s : State) : (noteDrop q r s).tracker = s.tracker := rfl
@[simp] theorem noteDrop_table (q : DropReason) (r : Request) (s : State) : (noteDrop q r s).table = s.table := rfl
@[simp] theorem noteDrop_store (q : DropReason) (r : Request) (s : State) : (noteDrop q r s).store = s.store := rfl
@[simp] theorem noteDrop_queue (q : DropReason) (r : Request) (s : State) : (noteDrop q r s).queue = s.queue := rfl
@[simp] theorem noteDrop_driveA (q : DropReason) (r : Request) (s : State) : (noteDrop q r s).driveA = s.driveA := rfl
@[simp] theorem noteDrop_driveB (q : DropReason) (r : Request) (s : State) : (noteDrop q r s).driveB = s.driveB := rfl
@[simp] theorem noteDrop_sel (q : DropReason) (r : Request) (s : State) : (noteDrop q r s).sel = s.sel := rfl
@[simp] theorem noteDrop_fueling (q : DropReason) (r : Request) (s : State) : (noteDrop q r s).fueling = s.fueling := rfl
@[simp] theorem noteDrop_control (q : DropReason) (r : Request) (s : State) : (noteDrop q r s).control = s.control := rfl
@[simp] theorem noteDrop_pins (q : DropReason) (r : Request) (s : State) : (noteDrop q r s).pins = s.pins := rfl
@[simp] theorem noteDrop_freeIndex (q : DropReason) (r : Request) (s : State) : (noteDrop q r s).freeIndex = s.freeIndex := rfl
@[simp] theorem noteDrop_pending (q : DropReason) (r : Request) (s : State) : (noteDrop q r s).pending = s.pending := rfl
@[simp] theorem noteDrop_now (q : DropReason) (r : Request) (s : State) : (noteDrop q r s).now = s.now := rfl
@[simp] theorem noteDrop_running (q : DropReason) (r : Request) (s : State) : (noteDrop q r s).running = s.running := rfl
@[simp] theorem noteDrop_cyl (q : DropReason) (r : Request) (s : State) (c : Cylinder) : (noteDrop q r s).cyl c = s.cyl c := rfl
@[simp] theorem noteDrop_drive (q : DropReason) (r : Request) (s : State) (x : Bank) : (noteDrop q r s).drive x = s.drive x := by cases x <;> rfl

@[simp] theorem countDrop_link (q : DropReason) (s : State) : (countDrop q s).link = s.link := rfl
@[simp] theorem countDrop_tracker (q : DropReason) (s : State) : (countDrop q s).tracker = s.tracker := rfl
@[simp] theorem countDrop_table (q : DropReason) (s : State) : (countDrop q s).table = s.table := rfl
@[simp] theorem countDrop_store (q : DropReason) (s : State) : (countDrop q s).store = s.store := rfl
@[simp] theorem countDrop_queue (q : DropReason) (s : State) : (countDrop q s).queue = s.queue := rfl
@[simp] theorem countDrop_driveA (q : DropReason) (s : State) : (countDrop q s).driveA = s.driveA := rfl
@[simp] theorem countDrop_driveB (q : DropReason) (s : State) : (countDrop q s).driveB = s.driveB := rfl
@[simp] theorem countDrop_sel (q : DropReason) (s : State) : (countDrop q s).sel = s.sel := rfl
@[simp] theorem countDrop_fueling (q : DropReason) (s : State) : (countDrop q s).fueling = s.fueling := rfl
@[simp] theorem countDrop_control (q : DropReason) (s : State) : (countDrop q s).control = s.control := rfl
@[simp] theorem countDrop_pins (q : DropReason) (s : State) : (countDrop q s).pins = s.pins := rfl
@[simp] theorem countDrop_freeIndex (q : DropReason) (s : State) : (countDrop q s).freeIndex = s.freeIndex := rfl
@[simp] theorem countDrop_pending (q : DropReason) (s : State) : (countDrop q s).pending = s.pending := rfl
@[simp] theorem countDrop_now (q : DropReason) (s : State) : (countDrop q s).now = s.now := rfl
@[simp] theorem countDrop_running (q : DropReason) (s : State) : (countDrop q s).running = s.running := rfl
@[simp] theorem countDrop_cyl (q : DropReason) (s : State) (c : Cylinder) : (countDrop q s).cyl c = s.cyl c := rfl
@[simp] theorem countDrop_drive (q : DropReason) (s : State) (x : Bank) : (countDrop q s).drive x = s.drive x := by cases x <;> rfl

end Sys2Proof.Machine
end

