-- ==== Sys2Proof/Laws/Queue.lean ====
section
/-! SUPPORT. What the operations of the Pulse Queue can do: an insertion adds one record and loses none, a move
changes one record, a drop order removes exactly the records it reaches (R86, R100). -/

namespace Sys2Proof.Machine

/-! ### Insertion and removal -/

/-- An insertion in queue order adds one record and keeps the others. -/
theorem insertRequest_perm (r : Request) (rs : List Request) : (insertRequest r rs).Perm (r :: rs) := by
  induction rs with
  | nil => exact List.Perm.refl _
  | cons x xs ih =>
    simp only [insertRequest]
    split
    · exact List.Perm.refl _
    · exact (List.Perm.cons x ih).trans (List.Perm.swap r x xs)

@[simp] theorem insertRequest_length (r : Request) (rs : List Request) :
    (insertRequest r rs).length = rs.length + 1 := by
  simpa using (insertRequest_perm r rs).length_eq

theorem mem_insertRequest {a r : Request} {rs : List Request} : a ∈ insertRequest r rs ↔ a = r ∨ a ∈ rs := by
  rw [(insertRequest_perm r rs).mem_iff, List.mem_cons]

theorem removeRequest_frame (r : Request) (s : State) :
    removeRequest r s = s.setRequests (s.queue.requests.erase r) := rfl

/-- A move changes at most the requests. -/
theorem moveRequest_frame (old new : Request) (s : State) :
    moveRequest old new s = s.setRequests (moveRequest old new s).queue.requests := by
  unfold moveRequest; split <;> rfl

/-- A move replaces one record by its new form, in the queue's bag of records. -/
theorem moveRequest_perm (old new : Request) (s : State) (h : old ∈ s.queue.requests) :
    (moveRequest old new s).queue.requests.Perm (new :: s.queue.requests.erase old) := by
  simp only [moveRequest, if_pos h]
  exact insertRequest_perm _ _

/-- A move keeps the number of requests. -/
@[simp] theorem moveRequest_length (old new : Request) (s : State) :
    (moveRequest old new s).queue.requests.length = s.queue.requests.length := by
  unfold moveRequest
  split
  · rename_i h
    simp only [State.setRequests_queue, insertRequest_length, List.length_erase_of_mem h]
    have := List.length_pos_of_mem h
    omega
  · rfl

/-! ### Drop orders -/

/-- A drop changes the requests and the Notice Unit alone (R100). -/
theorem dropRequest_frame (q : DropReason) (r : Request) (s : State) :
    dropRequest q r s = (s.setRequests (s.queue.requests.erase r)).setNotices (dropRequest q r s).notices := rfl

@[simp] theorem dropRequest_requests (q : DropReason) (r : Request) (s : State) :
    (dropRequest q r s).queue.requests = s.queue.requests.erase r := rfl

/-- What a row of drops can do: the requests and the Notice Unit change, nothing else. -/
theorem dropAll_frame (q : DropReason) (rs : List Request) (s : State) :
    rs.foldl (fun t r => dropRequest q r t) s =
      (s.setRequests (rs.foldl (fun l r => l.erase r) s.queue.requests)).setNotices
        (rs.foldl (fun t r => dropRequest q r t) s).notices := by
  induction rs generalizing s with
  | nil => rfl
  | cons r rs ih =>
    simp only [List.foldl_cons]
    rw [ih (dropRequest q r s)]
    rfl

/-- Erasing the members that pass a test, one by one, leaves those that fail it. -/
theorem foldl_erase_filter (p : Request → Bool) (rs : List Request) :
    (rs.filter p).foldl (fun l r => l.erase r) rs = rs.filter (fun r => !p r) := by
  have push : ∀ (ds l : List Request) (x : Request), x ∉ ds →
      ds.foldl (fun l r => l.erase r) (x :: l) = x :: ds.foldl (fun l r => l.erase r) l := by
    intro ds
    induction ds with
    | nil => intros; rfl
    | cons d ds ih =>
      intro l x hx
      simp only [List.mem_cons, not_or] at hx
      simp only [List.foldl_cons]
      rw [List.erase_cons_tail (by simpa using hx.1), ih _ _ hx.2]
  induction rs with
  | nil => rfl
  | cons x xs ih =>
    by_cases h : p x = true
    · simp [h, ih]
    · simp only [List.filter_cons, h, Bool.not_false, if_true]
      rw [if_neg (by simp), push _ _ _ (by simp [h]), ih]

/-- A drop order removes exactly the records it reaches, and the others keep their order (R100). -/
@[simp] theorem dropWhere_requests (q : DropReason) (p : Request → Bool) (s : State) :
    (dropWhere q p s).queue.requests = s.queue.requests.filter (fun r => !p r) := by
  unfold dropWhere
  rw [dropAll_frame]
  simp [foldl_erase_filter]

/-- A drop order changes the requests and the Notice Unit alone. -/
theorem dropWhere_frame (q : DropReason) (p : Request → Bool) (s : State) :
    dropWhere q p s =
      (s.setRequests (s.queue.requests.filter (fun r => !p r))).setNotices (dropWhere q p s).notices := by
  conv_lhs => rw [dropWhere, dropAll_frame, foldl_erase_filter]
  rfl

theorem dropAll_sound (q : DropReason) (rs : List Request) (s : State) (h : s.notices.Sound) :
    (rs.foldl (fun t r => dropRequest q r t) s).notices.Sound := by
  induction rs generalizing s with
  | nil => exact h
  | cons r rs ih => exact ih _ (noteDrop_sound q r _ h)

theorem dropWhere_sound (q : DropReason) (p : Request → Bool) (s : State) (h : s.notices.Sound) :
    (dropWhere q p s).notices.Sound := dropAll_sound q _ s h

/-- The order that reaches every request in PLANNED, ARMED or DUE leaves the driving ones (R101, R102). -/
@[simp] theorem dropNonDriving_requests (q : DropReason) (s : State) :
    (dropNonDriving q s).queue.requests = s.queue.requests.filter (fun r => driving r.state) := by
  simp [dropNonDriving]

theorem dropNonDriving_frame (q : DropReason) (s : State) :
    dropNonDriving q s =
      (s.setRequests (s.queue.requests.filter (fun r => driving r.state))).setNotices (dropNonDriving q s).notices := by
  rw [dropNonDriving, dropWhere_frame]
  simp

theorem dropNonDriving_sound (q : DropReason) (s : State) (h : s.notices.Sound) :
    (dropNonDriving q s).notices.Sound := dropWhere_sound q _ s h

/-! ### Occupants and waiting sets -/

theorem occupant_some {x : Bank} {s : State} {o : Request} (h : occupant x s = some o) :
    o ∈ s.queue.requests ∧ o.bank = x ∧ driving o.state = true := by
  have h1 := List.mem_of_find?_eq_some h
  have h2 := List.find?_some h
  simp only [Bool.and_eq_true, beq_iff_eq] at h2
  exact ⟨h1, h2.1, h2.2⟩

theorem occupant_none {x : Bank} {s : State} (h : occupant x s = none) :
    ∀ r ∈ s.queue.requests, r.bank = x → driving r.state = false := by
  intro r hr hx
  have := List.find?_eq_none.mp h r hr
  simpa [hx] using this

theorem mem_waiting {x : Bank} {s : State} {r : Request} :
    r ∈ waiting x s ↔ r ∈ s.queue.requests ∧ r.bank = x ∧ r.state = .due ∧ r.lateExpiry.isSome = true := by
  simp [waiting, List.mem_filter, and_assoc]

/-! ### The bound of 16 and the depth mark (R85, R91, R106) -/

/-- An admission keeps the bound of 16, and the depth mark within it. -/
theorem enterQueue_bounds (r : Request) (s : State) (h : s.queue.requests.length ≤ 16) (hm : s.queue.depthMark ≤ 16) :
    (enterQueue r s).queue.requests.length ≤ 16 ∧ (enterQueue r s).queue.depthMark ≤ 16 := by
  unfold enterQueue
  split
  · exact ⟨h, hm⟩
  · simp only [insertRequest_length]
    omega

/-- An admission changes the queue and the Notice Unit alone. -/
theorem enterQueue_frame (r : Request) (s : State) :
    enterQueue r s = { s with queue := (enterQueue r s).queue, notices := (enterQueue r s).notices } := by
  unfold enterQueue; split <;> rfl

end Sys2Proof.Machine
end

