-- ==== Sys2Proof/Laws/Frames.lean ====
section
/-! SUPPORT. The frames of the shared operations: what the operations of the Pulse Queue, the Drive Arbiter, the
pulses and the planner leave unchanged, said once for all of them, and what the Fueling Supervisor's work leaves
unchanged. -/

namespace Sys2Proof.Machine

/-- `t` differs from `s` at most in the queue's records, marks and captures, the drive banks, the SEL outputs, the
cylinders' records and the Notice Unit. -/
structure Quiet (s t : State) : Prop where
  link : t.link = s.link
  tracker : t.tracker = s.tracker
  store : t.store = s.store
  fueling : t.fueling = s.fueling
  control : t.control = s.control
  pins : t.pins = s.pins
  freeIndex : t.freeIndex = s.freeIndex
  pending : t.pending = s.pending
  ring : t.table.ring = s.table.ring
  planLead : t.table.planLead = s.table.planLead
  maskThreshold : t.table.maskThreshold = s.table.maskThreshold
  planPoints : t.table.planPoints = s.table.planPoints
  limits : t.queue.limits = s.queue.limits

theorem Quiet.refl (s : State) : Quiet s s := ⟨rfl, rfl, rfl, rfl, rfl, rfl, rfl, rfl, rfl, rfl, rfl, rfl, rfl⟩

theorem Quiet.trans {s t u : State} (h : Quiet s t) (g : Quiet t u) : Quiet s u :=
  ⟨g.link.trans h.link, g.tracker.trans h.tracker, g.store.trans h.store, g.fueling.trans h.fueling,
   g.control.trans h.control, g.pins.trans h.pins, g.freeIndex.trans h.freeIndex, g.pending.trans h.pending,
   g.ring.trans h.ring, g.planLead.trans h.planLead, g.maskThreshold.trans h.maskThreshold,
   g.planPoints.trans h.planPoints, g.limits.trans h.limits⟩

theorem Quiet.now {s t : State} (h : Quiet s t) : t.now = s.now := by rw [State.now, State.now, h.control]

theorem Quiet.running {s t : State} (h : Quiet s t) : t.running = s.running := by
  rw [State.running, State.running, h.control]

theorem Quiet.shortLevel {s t : State} (h : Quiet s t) (x : Bank) : t.shortLevel x = s.shortLevel x := by
  cases x <;> simp [State.shortLevel, h.pins]

/-- A row of quiet operations is quiet. -/
theorem Quiet.foldl {α : Type} {f : State → α → State} (hf : ∀ s a, Quiet s (f s a)) (l : List α) (s : State) :
    Quiet s (l.foldl f s) := by
  induction l generalizing s with
  | nil => exact Quiet.refl s
  | cons a l ih => exact (hf s a).trans (ih (f s a))

/-- One of two quiet ways is quiet. -/
theorem Quiet.ite {s t u : State} {c : Prop} [Decidable c] (h : Quiet s t) (g : Quiet s u) :
    Quiet s (if c then t else u) := by split <;> assumption

/-! ### Ops -/

theorem raiseAt_quiet (st : Time) (k : NoticeKind) (u : Subject) (b : Option Bank) (d : Half) (s : State) :
    Quiet s (raiseAt st k u b d s) := ⟨rfl, rfl, rfl, rfl, rfl, rfl, rfl, rfl, rfl, rfl, rfl, rfl, rfl⟩

theorem raise_quiet (k : NoticeKind) (u : Subject) (b : Option Bank) (d : Half) (s : State) :
    Quiet s (raise k u b d s) := raiseAt_quiet _ _ _ _ _ _

theorem setDrive_quiet (s : State) (x : Bank) (d : DriveBank) : Quiet s (s.setDrive x d) := by
  cases x <;> exact ⟨rfl, rfl, rfl, rfl, rfl, rfl, rfl, rfl, rfl, rfl, rfl, rfl, rfl⟩

theorem setCyl_quiet (s : State) (c : Cylinder) (k : CylState) : Quiet s (s.setCyl c k) :=
  ⟨rfl, rfl, rfl, rfl, rfl, rfl, rfl, rfl, rfl, rfl, rfl, rfl, rfl⟩

theorem setRequests_quiet (s : State) (rs : List Request) : Quiet s (s.setRequests rs) :=
  ⟨rfl, rfl, rfl, rfl, rfl, rfl, rfl, rfl, rfl, rfl, rfl, rfl, rfl⟩

theorem moveRequest_quiet (old new : Request) (s : State) : Quiet s (moveRequest old new s) :=
  (setRequests_quiet s _).ite (Quiet.refl s)

theorem setSel_quiet (s : State) (l : Eight Bool) : Quiet s { s with sel := l } :=
  ⟨rfl, rfl, rfl, rfl, rfl, rfl, rfl, rfl, rfl, rfl, rfl, rfl, rfl⟩

theorem setCaptures_quiet (s : State) (l : Eight (Option Capture)) :
    Quiet s { s with queue := { s.queue with captures := l } } :=
  ⟨rfl, rfl, rfl, rfl, rfl, rfl, rfl, rfl, rfl, rfl, rfl, rfl, rfl⟩

theorem countMiss_quiet (s : State) : Quiet s (countMiss s) :=
  ⟨rfl, rfl, rfl, rfl, rfl, rfl, rfl, rfl, rfl, rfl, rfl, rfl, rfl⟩

theorem countClamp_quiet (s : State) : Quiet s (countClamp s) :=
  ⟨rfl, rfl, rfl, rfl, rfl, rfl, rfl, rfl, rfl, rfl, rfl, rfl, rfl⟩

theorem countDrop_quiet (q : DropReason) (s : State) : Quiet s (countDrop q s) :=
  ⟨rfl, rfl, rfl, rfl, rfl, rfl, rfl, rfl, rfl, rfl, rfl, rfl, rfl⟩

theorem noteDrop_quiet (q : DropReason) (r : Request) (s : State) : Quiet s (noteDrop q r s) :=
  (countDrop_quiet q s).trans (raise_quiet _ _ _ _ _)

theorem dropRequest_quiet (q : DropReason) (r : Request) (s : State) : Quiet s (dropRequest q r s) :=
  (setRequests_quiet s _).trans (noteDrop_quiet q r _)

theorem dropWhere_quiet (q : DropReason) (p : Request → Bool) (s : State) : Quiet s (dropWhere q p s) :=
  Quiet.foldl (fun s r => dropRequest_quiet q r s) _ s

theorem dropNonDriving_quiet (q : DropReason) (s : State) : Quiet s (dropNonDriving q s) := dropWhere_quiet q _ s

theorem outputsOff_quiet (x : Bank) (c : Cylinder) (s : State) : Quiet s (outputsOff x c s) :=
  Quiet.trans (setDrive_quiet s x _) (setSel_quiet _ _)

theorem startRecharge_quiet (x : Bank) (t : Time) (s : State) : Quiet s (startRecharge x t s) := setDrive_quiet s x _

theorem rechargeIfBoost_quiet (x : Bank) (r : Request) (t : Time) (s : State) : Quiet s (rechargeIfBoost x r t s) :=
  (startRecharge_quiet x t s).ite (Quiet.refl s)

theorem reportEnd_quiet (c : Cylinder) (t : Time) (d : Nat) (s : State) : Quiet s (reportEnd c t d s) :=
  ((setCyl_quiet s c _).trans (raise_quiet _ _ _ _ _)).ite (setCyl_quiet s c _)

theorem judgeLock_quiet (x : Bank) (s : State) : Quiet s (judgeLock x s) :=
  ((setDrive_quiet s x _).trans (raise_quiet _ _ _ _ _)).ite (Quiet.refl s)

/-! ### The Drive Arbiter and the pulses -/

theorem countGrant_quiet (s : State) : Quiet s (countGrant s) :=
  ⟨rfl, rfl, rfl, rfl, rfl, rfl, rfl, rfl, rfl, rfl, rfl, rfl, rfl⟩

theorem grant_quiet (x : Bank) (r : Request) (s : State) : Quiet s (grant x r s) :=
  Quiet.trans (Quiet.trans (Quiet.trans (moveRequest_quiet r _ s) (setDrive_quiet _ x _)) (setSel_quiet _ _))
    (countGrant_quiet _)

theorem judgeTruncation_quiet (x : Bank) (s : State) : Quiet s (judgeTruncation x s) := by
  unfold judgeTruncation
  split
  · exact Quiet.refl s
  · exact ((((outputsOff_quiet x _ s).trans (reportEnd_quiet _ _ _ _)).trans (setRequests_quiet _ _)).trans
      (raise_quiet _ _ _ _ _)).ite (Quiet.refl s)

theorem auction_quiet (x : Bank) (s : State) : Quiet s (auction x s) := by
  unfold auction
  split
  · exact Quiet.refl s
  · simp only []
    split
    · exact judgeTruncation_quiet x s
    · exact (judgeTruncation_quiet x s).trans (grant_quiet x _ _)

theorem expireAtOnce_quiet (r : Request) (s : State) : Quiet s (expireAtOnce r s) :=
  (dropRequest_quiet _ r s).ite (Quiet.refl s)

theorem handOver_quiet (r : Request) (s : State) : Quiet s (handOver r s) :=
  ((moveRequest_quiet r _ s).trans (auction_quiet _ _)).trans (expireAtOnce_quiet _ _)

theorem separationElapses_quiet (c : Cylinder) (s : State) : Quiet s (separationElapses c s) := by
  have h : ∀ x u, Quiet u (auctionFor c x u) := fun x u => (auction_quiet x u).ite (Quiet.refl u)
  exact ((h .a s).trans (h .b _)).ite (Quiet.refl s)

theorem peakFailure_quiet (c : Cylinder) (x : Bank) (s : State) : Quiet s (peakFailure c x s) :=
  ((setCyl_quiet s c _).trans (raise_quiet _ _ _ _ _)).ite (setCyl_quiet s c _)

theorem abortBegin_quiet (x : Bank) (o : Request) (s : State) : Quiet s (abortBegin x o s) :=
  ((outputsOff_quiet x _ s).trans (rechargeIfBoost_quiet x o _ _)).trans (reportEnd_quiet _ _ _ _)

theorem abortByReverse_quiet (o : Request) (s : State) : Quiet s (abortByReverse o s) :=
  (abortBegin_quiet o.bank o s).trans (dropRequest_quiet _ o _)

theorem reverseOrder_quiet (s : State) : Quiet s (reverseOrder s) :=
  ((Quiet.foldl (f := fun t r => abortByReverse r t) (fun t r => abortByReverse_quiet r t) _ s).trans
    (dropNonDriving_quiet _ _)).trans (Quiet.foldl (f := fun t (r : Request) => auction r.bank t)
      (fun t (r : Request) => auction_quiet r.bank t) _ _)

theorem abortByStandby_quiet (x : Bank) (s : State) : Quiet s (abortByStandby x s) := by
  unfold abortByStandby
  split
  · exact Quiet.refl s
  · exact ((outputsOff_quiet x _ s).trans (reportEnd_quiet _ _ _ _)).trans (dropRequest_quiet _ _ _)

theorem abortBySoftReset_quiet (x : Bank) (s : State) : Quiet s (abortBySoftReset x s) := by
  unfold abortBySoftReset
  split
  · exact Quiet.refl s
  · exact (((outputsOff_quiet x _ s).trans (setCyl_quiet _ _ _)).trans (countDrop_quiet _ _)).trans
      (setRequests_quiet _ _)

/-! ### The Pulse Queue and the planner -/

theorem captureShadow_quiet (r : Request) (s : State) : Quiet s (captureShadow r s) :=
  Quiet.trans (setRequests_quiet s _) (setCaptures_quiet _ _)

theorem handOn_quiet (r : Request) (s : State) : Quiet s (handOn r s) :=
  (captureShadow_quiet r s).ite (handOver_quiet r s)

theorem becomeDue_quiet (r : Request) (t : Time) (c : DueCause) (s : State) : Quiet s (becomeDue r t c s) :=
  (moveRequest_quiet r _ s).trans (handOn_quiet _ _)

theorem becomeDueTogether_quiet (rs : List Request) (t : Time) (s : State) : Quiet s (becomeDueTogether rs t s) :=
  (Quiet.foldl (fun u r => (moveRequest_quiet r _ u).trans (countMiss_quiet _)) rs s).trans
    (Quiet.foldl (fun u r => handOn_quiet r u) _ _)

theorem queueTooth_quiet (e : ToothEvent) (s : State) : Quiet s (queueTooth e s) :=
  (setRequests_quiet s _).trans (becomeDueTogether_quiet _ _ _)

theorem queueCam_quiet (t : Time) (s : State) : Quiet s (queueCam t s) := becomeDueTogether_quiet _ _ _

theorem enterQueue_quiet (r : Request) (s : State) : Quiet s (enterQueue r s) :=
  (noteDrop_quiet .queueFull r s).ite ⟨rfl, rfl, rfl, rfl, rfl, rfl, rfl, rfl, rfl, rfl, rfl, rfl, rfl⟩

theorem buildEntries_quiet (g : Planning) (es : List PlanEntry) (s : State) : Quiet s (buildEntries g es s).1 := by
  have h : ∀ (es : List PlanEntry) (acc : State × List Request), Quiet acc.1 (es.foldl (buildEntry g) acc).1 := by
    intro es
    induction es with
    | nil => exact fun acc => Quiet.refl acc.1
    | cons e es ih =>
      intro acc
      refine Quiet.trans ?_ (ih _)
      unfold buildEntry
      simp only []
      split
      · exact noteDrop_quiet _ _ _
      · split
        · exact countClamp_quiet _
        · exact Quiet.refl _
  exact h es (s, [])

theorem parityFault_quiet (c : Cylinder) (a b : Nat) (s : State) : Quiet s (parityFault c a b s) := raise_quiet _ _ _ _ _

theorem insertPlanned_quiet (e : ToothEvent) (rs : List Request) (s : State) : Quiet s (insertPlanned e rs s) :=
  Quiet.foldl (fun u _ => enterQueue_quiet _ u) _ s

theorem planFrom_quiet (e : ToothEvent) (g : Planning) (s : State) : Quiet s (planFrom e g s) := by
  have h : ∀ es, Quiet s (insertPlanned e (buildEntries g es s).2 (buildEntries g es s).1) :=
    fun es => (buildEntries_quiet g es s).trans (insertPlanned_quiet e _ _)
  exact (parityFault_quiet _ _ _ _).ite (((parityFault_quiet _ _ _ _).ite (h _)).ite (h _))

theorem takeUpAtTooth_quiet (e : ToothEvent) (p : Position) (r : RingEntry) (s : State) :
    Quiet s (takeUpAtTooth e p r s) := (planFrom_quiet e _ s).ite (Quiet.refl s)

theorem planPosition_quiet (e : ToothEvent) (i : Nat) (s : State) : Quiet s (planPosition e i s) := by
  unfold planPosition
  split
  · exact ((setCyl_quiet s _ _).trans (takeUpAtTooth_quiet _ _ _ _)).ite (Quiet.refl s)
  · exact Quiet.refl s

theorem toothEvent_quiet (e : ToothEvent) (s : State) : Quiet s (toothEvent e s) :=
  (queueTooth_quiet e s).trans (Quiet.foldl (fun u i => planPosition_quiet e i u) _ _)

theorem admitLimp_quiet (t : Time) (c : Nat) (r : Request) (s : State) : Quiet s (admitLimp t c r s) :=
  (enterQueue_quiet _ s).ite ((noteDrop_quiet _ _ _).ite ((enterQueue_quiet _ s).trans (becomeDue_quiet _ _ _ _)))

theorem planLimp_quiet (t : Time) (c : Nat) (g : Planning) (s : State) : Quiet s (planLimp t c g s) :=
  (parityFault_quiet _ _ _ _).ite
    ((buildEntries_quiet g _ s).trans (Quiet.foldl (fun u r => admitLimp_quiet t c r u) _ _))

theorem planLimpPosition_quiet (t : Time) (c i : Nat) (s : State) : Quiet s (planLimpPosition t c i s) := by
  unfold planLimpPosition
  split
  · exact Quiet.refl s
  · exact ((setCyl_quiet s _ _).trans (planLimp_quiet _ _ _ _)).ite (setCyl_quiet s _ _)

theorem camEvent_quiet (t : Time) (c : Nat) (s : State) : Quiet s (camEvent t c s) :=
  (queueCam_quiet t s).trans (Quiet.foldl (fun u i => planLimpPosition_quiet t c i u) _ _)

/-! ### The Fueling Supervisor -/

/-- `t` differs from `s` at most in the supervisor's part and in what `Quiet` allows. -/
def FuelOnly (s t : State) : Prop := Quiet (s.setFueling t.fueling) t

theorem FuelOnly.of_quiet {s t : State} (h : Quiet s t) : FuelOnly s t :=
  ⟨h.link, h.tracker, h.store, rfl, h.control, h.pins, h.freeIndex, h.pending, h.ring, h.planLead, h.maskThreshold,
   h.planPoints, h.limits⟩

theorem FuelOnly.link {s t : State} (h : FuelOnly s t) : t.link = s.link :=
  Quiet.link (s := s.setFueling t.fueling) h
theorem FuelOnly.tracker {s t : State} (h : FuelOnly s t) : t.tracker = s.tracker :=
  Quiet.tracker (s := s.setFueling t.fueling) h
theorem FuelOnly.store {s t : State} (h : FuelOnly s t) : t.store = s.store :=
  Quiet.store (s := s.setFueling t.fueling) h
theorem FuelOnly.control {s t : State} (h : FuelOnly s t) : t.control = s.control :=
  Quiet.control (s := s.setFueling t.fueling) h
theorem FuelOnly.pins {s t : State} (h : FuelOnly s t) : t.pins = s.pins :=
  Quiet.pins (s := s.setFueling t.fueling) h
theorem FuelOnly.pending {s t : State} (h : FuelOnly s t) : t.pending = s.pending :=
  Quiet.pending (s := s.setFueling t.fueling) h
theorem FuelOnly.freeIndex {s t : State} (h : FuelOnly s t) : t.freeIndex = s.freeIndex :=
  Quiet.freeIndex (s := s.setFueling t.fueling) h
theorem FuelOnly.ring {s t : State} (h : FuelOnly s t) : t.table.ring = s.table.ring :=
  Quiet.ring (s := s.setFueling t.fueling) h
theorem FuelOnly.planLead {s t : State} (h : FuelOnly s t) : t.table.planLead = s.table.planLead :=
  Quiet.planLead (s := s.setFueling t.fueling) h
theorem FuelOnly.maskThreshold {s t : State} (h : FuelOnly s t) : t.table.maskThreshold = s.table.maskThreshold :=
  Quiet.maskThreshold (s := s.setFueling t.fueling) h
theorem FuelOnly.planPoints {s t : State} (h : FuelOnly s t) : t.table.planPoints = s.table.planPoints :=
  Quiet.planPoints (s := s.setFueling t.fueling) h
theorem FuelOnly.limits {s t : State} (h : FuelOnly s t) : t.queue.limits = s.queue.limits :=
  Quiet.limits (s := s.setFueling t.fueling) h

theorem FuelOnly.trans {s t u : State} (h : FuelOnly s t) (g : FuelOnly t u) : FuelOnly s u :=
  ⟨g.link.trans h.link, g.tracker.trans h.tracker, g.store.trans h.store, rfl,
   g.control.trans h.control, g.pins.trans h.pins, g.freeIndex.trans h.freeIndex, g.pending.trans h.pending,
   g.ring.trans h.ring, g.planLead.trans h.planLead, g.maskThreshold.trans h.maskThreshold,
   g.planPoints.trans h.planPoints, g.limits.trans h.limits⟩

theorem setFueling_fuelOnly (s : State) (f : Fueling) : FuelOnly s (s.setFueling f) := Quiet.refl _

/-- A derivation leaves the supervisor's inputs and everything but the requests and the notices as they are. -/
theorem deriveFueling_fuelOnly (c : FuelCause) (s : State) : FuelOnly s (deriveFueling c s) := by
  unfold deriveFueling
  simp only []
  split
  · exact FuelOnly.of_quiet (Quiet.refl s)
  · have h : FuelOnly s (raise .fuelState .absent none
        (fuelStateDetail s.fueling.state (derivedState s.fueling) c (cutReasons s.fueling))
        (s.setFueling { s.fueling with state := derivedState s.fueling })) :=
      FuelOnly.trans (setFueling_fuelOnly s _) (FuelOnly.of_quiet (raise_quiet _ _ _ _ _))
    split
    · exact h.trans (FuelOnly.of_quiet (dropNonDriving_quiet _ _))
    · exact h

/-- After a derivation the state is the derived one, and the supervisor's other fields stand (R157). -/
theorem deriveFueling_fueling (c : FuelCause) (s : State) :
    (deriveFueling c s).fueling = { s.fueling with state := derivedState s.fueling } := by
  unfold deriveFueling
  simp only []
  split
  · rename_i h; rw [h]
  · split
    · exact (dropNonDriving_quiet _ _).fueling
    · rfl

theorem judgeSpeed_fuelOnly (s : State) : FuelOnly s (judgeSpeed s) := setFueling_fuelOnly s _

theorem judgeExpired_fuelOnly (s : State) : FuelOnly s (judgeExpired s) := by
  unfold judgeExpired
  simp only []
  split
  · exact FuelOnly.trans (setFueling_fuelOnly s _) (FuelOnly.of_quiet (raise_quiet _ _ _ _ _))
  · split
    · exact setFueling_fuelOnly s _
    · exact FuelOnly.of_quiet (Quiet.refl s)

theorem handSpeed_fuelOnly (s : State) : FuelOnly s (handSpeed s) :=
  ((setFueling_fuelOnly s _).trans (judgeSpeed_fuelOnly _)).trans (deriveFueling_fuelOnly _ _)

theorem handSync_fuelOnly (s : State) : FuelOnly s (handSync s) :=
  (setFueling_fuelOnly s _).trans (deriveFueling_fuelOnly _ _)

theorem handAge_fuelOnly (s : State) : FuelOnly s (handAge s) :=
  ((setFueling_fuelOnly s _).trans (judgeExpired_fuelOnly _)).trans (deriveFueling_fuelOnly _ _)

theorem handClock_fuelOnly (s : State) : FuelOnly s (handClock s) :=
  (setFueling_fuelOnly s _).trans (deriveFueling_fuelOnly _ _)

/-! ### The origin event -/

/-- A swap that takes effect changes the store, the supervisor and what `Quiet` allows. -/
theorem swapTakesEffect_tracker (g : Byte) (b : Bool) (s : State) :
    (swapTakesEffect g b s).tracker = s.tracker ∧ (swapTakesEffect g b s).link = s.link ∧
      (swapTakesEffect g b s).control = s.control ∧ (swapTakesEffect g b s).pins = s.pins ∧
      (swapTakesEffect g b s).pending = s.pending := by
  have h := handAge_fuelOnly (s.setStore { (s.store.setBank (otherBank s.store.active)
    { s.store.bank (otherBank s.store.active) with tag := g }) with active := otherBank s.store.active, age := 0 })
  exact ⟨h.tracker, h.link, h.control, h.pins, h.pending⟩

/-- The store's work at an origin event leaves the tracker, the link, mode control and the pins as they are. -/
theorem storeOrigin_frame (s : State) :
    (storeOrigin s).tracker = s.tracker ∧ (storeOrigin s).link = s.link ∧ (storeOrigin s).control = s.control ∧
      (storeOrigin s).pins = s.pins ∧ (storeOrigin s).pending = s.pending := by
  unfold storeOrigin
  split
  · exact swapTakesEffect_tracker _ _ s
  · have h := handAge_fuelOnly (s.setStore { s.store with age := satInc 255 s.store.age })
    exact ⟨h.tracker, h.link, h.control, h.pins, h.pending⟩

/-- An origin event advances the cycle number and leaves the rest of the tracker, the link, mode control and the pins
as they are (R14). -/
theorem originEvent_frame (s : State) :
    (originEvent s).tracker = { s.tracker with cycle := s.tracker.cycle + 1 } ∧ (originEvent s).link = s.link ∧
      (originEvent s).control = s.control ∧ (originEvent s).pins = s.pins ∧ (originEvent s).pending = s.pending :=
  storeOrigin_frame _

/-! ### Answers -/

/-- A frame command in RUN: what its owner makes of the state, with the reply stored (R168). -/
theorem carryOut_running {tag : Byte} {p : List Byte} {own : List Byte → State → Answer} {s : State}
    (h : s.running = true) :
    carryOut tag p own s = { (own p s).state with link := { (own p s).state.link with
      reply := { status := (own p s).status, tag := tag, payload := (own p s).payload }, lastTag := tag } } := by
  simp only [carryOut, h, if_true]

theorem carryOut_stopped {tag : Byte} {p : List Byte} {own : List Byte → State → Answer} {s : State}
    (h : s.running = false) : carryOut tag p own s = s := by simp [carryOut, h]

end Sys2Proof.Machine
end

