-- ==== Sys2Proof/Laws/PerInstr.lean ====
section
/-! SUPPORT. One law for every command, constructor by constructor: the frame a command is names the command
again, and a well-formed command's payload has a length that a frame can carry. -/

namespace Sys2Proof.Laws.FrameSyntax

/-- The frame command, tag and payload that a command is spell it again, and the payload of a well-formed one
fits in a frame (R166, R173). -/
def Statement (i : Sys2Proof.Instr) : Prop :=
  ∀ c t p, i.frame? = some (c, t, p) → c.instr t p = i ∧ (i.wellFormed = true → p.length ≤ 60)

/-- A frame command: its own frame spells it. -/
theorem frame_case {i : Sys2Proof.Instr} {c : Sys2Proof.Command} {t : Sys2Proof.Byte} {p : List Sys2Proof.Byte}
    (hf : i.frame? = some (c, t, p)) (hi : c.instr t p = i) : Statement i := by
  intro c' t' p' h
  rw [hf] at h
  cases h
  refine ⟨hi, fun hw => ?_⟩
  simp only [Sys2Proof.Instr.wellFormed, Sys2Proof.Instr.payloadFits, hf, Bool.and_eq_true, decide_eq_true_eq] at hw
  exact hw.1

/-- An event is no frame command. -/
theorem event_case {i : Sys2Proof.Instr} (hf : i.frame? = none) : Statement i := by
  intro c t p h
  rw [hf] at h
  cases h

theorem csNFall : Statement (.csNFall) := event_case rfl

theorem csNRelease (mosi : List Bool) : Statement (.csNRelease mosi) := event_case rfl

theorem turnaroundExpiry : Statement (.turnaroundExpiry) := event_case rfl

theorem nop (tag : Sys2Proof.Byte) (payload : List Sys2Proof.Byte) : Statement (.nop tag payload) := frame_case rfl rfl

theorem ident (tag : Sys2Proof.Byte) (payload : List Sys2Proof.Byte) : Statement (.ident tag payload) := frame_case rfl rfl

theorem setWheel (tag : Sys2Proof.Byte) (payload : List Sys2Proof.Byte) : Statement (.setWheel tag payload) := frame_case rfl rfl

theorem setCam (tag : Sys2Proof.Byte) (payload : List Sys2Proof.Byte) : Statement (.setCam tag payload) := frame_case rfl rfl

theorem setRing (tag : Sys2Proof.Byte) (payload : List Sys2Proof.Byte) : Statement (.setRing tag payload) := frame_case rfl rfl

theorem setLimits (tag : Sys2Proof.Byte) (payload : List Sys2Proof.Byte) : Statement (.setLimits tag payload) := frame_case rfl rfl

theorem setFueling (tag : Sys2Proof.Byte) (payload : List Sys2Proof.Byte) : Statement (.setFueling tag payload) := frame_case rfl rfl

theorem setLimp (tag : Sys2Proof.Byte) (payload : List Sys2Proof.Byte) : Statement (.setLimp tag payload) := frame_case rfl rfl

theorem writePlan (tag : Sys2Proof.Byte) (payload : List Sys2Proof.Byte) : Statement (.writePlan tag payload) := frame_case rfl rfl

theorem copyActive (tag : Sys2Proof.Byte) (payload : List Sys2Proof.Byte) : Statement (.copyActive tag payload) := frame_case rfl rfl

theorem swap (tag : Sys2Proof.Byte) (payload : List Sys2Proof.Byte) : Statement (.swap tag payload) := frame_case rfl rfl

theorem cancelSwap (tag : Sys2Proof.Byte) (payload : List Sys2Proof.Byte) : Statement (.cancelSwap tag payload) := frame_case rfl rfl

theorem readPlan (tag : Sys2Proof.Byte) (payload : List Sys2Proof.Byte) : Statement (.readPlan tag payload) := frame_case rfl rfl

theorem setCylMode (tag : Sys2Proof.Byte) (payload : List Sys2Proof.Byte) : Statement (.setCylMode tag payload) := frame_case rfl rfl

theorem clearMask (tag : Sys2Proof.Byte) (payload : List Sys2Proof.Byte) : Statement (.clearMask tag payload) := frame_case rfl rfl

theorem flushCyl (tag : Sys2Proof.Byte) (payload : List Sys2Proof.Byte) : Statement (.flushCyl tag payload) := frame_case rfl rfl

theorem arm (tag : Sys2Proof.Byte) (payload : List Sys2Proof.Byte) : Statement (.arm tag payload) := frame_case rfl rfl

theorem disarm (tag : Sys2Proof.Byte) (payload : List Sys2Proof.Byte) : Statement (.disarm tag payload) := frame_case rfl rfl

theorem fuelCut (tag : Sys2Proof.Byte) (payload : List Sys2Proof.Byte) : Statement (.fuelCut tag payload) := frame_case rfl rfl

theorem releaseBank (tag : Sys2Proof.Byte) (payload : List Sys2Proof.Byte) : Statement (.releaseBank tag payload) := frame_case rfl rfl

theorem readAngle (tag : Sys2Proof.Byte) (payload : List Sys2Proof.Byte) : Statement (.readAngle tag payload) := frame_case rfl rfl

theorem readStatus (tag : Sys2Proof.Byte) (payload : List Sys2Proof.Byte) : Statement (.readStatus tag payload) := frame_case rfl rfl

theorem readShadow (tag : Sys2Proof.Byte) (payload : List Sys2Proof.Byte) : Statement (.readShadow tag payload) := frame_case rfl rfl

theorem readMarks (tag : Sys2Proof.Byte) (payload : List Sys2Proof.Byte) : Statement (.readMarks tag payload) := frame_case rfl rfl

theorem readCounters (tag : Sys2Proof.Byte) (payload : List Sys2Proof.Byte) : Statement (.readCounters tag payload) := frame_case rfl rfl

theorem readFault (tag : Sys2Proof.Byte) (payload : List Sys2Proof.Byte) : Statement (.readFault tag payload) := frame_case rfl rfl

theorem clearFault (tag : Sys2Proof.Byte) (payload : List Sys2Proof.Byte) : Statement (.clearFault tag payload) := frame_case rfl rfl

theorem fetchNotices (tag : Sys2Proof.Byte) (payload : List Sys2Proof.Byte) : Statement (.fetchNotices tag payload) := frame_case rfl rfl

theorem setNoticeMask (tag : Sys2Proof.Byte) (payload : List Sys2Proof.Byte) : Statement (.setNoticeMask tag payload) := frame_case rfl rfl

theorem enterStandby (tag : Sys2Proof.Byte) (payload : List Sys2Proof.Byte) : Statement (.enterStandby tag payload) := frame_case rfl rfl

theorem setWake (tag : Sys2Proof.Byte) (payload : List Sys2Proof.Byte) : Statement (.setWake tag payload) := frame_case rfl rfl

theorem softReset (tag : Sys2Proof.Byte) (payload : List Sys2Proof.Byte) : Statement (.softReset tag payload) := frame_case rfl rfl

theorem resetNLow : Statement (.resetNLow) := event_case rfl

theorem resetNRise : Statement (.resetNRise) := event_case rfl

theorem warmupEnd : Statement (.warmupEnd) := event_case rfl

theorem wakeLevelRise (high : Bool) : Statement (.wakeLevelRise high) := event_case rfl

theorem refclkCycle (picoseconds : Nat) : Statement (.refclkCycle picoseconds) := event_case rfl

theorem refclkMissing : Statement (.refclkMissing) := event_case rfl

theorem crankActiveEdge : Statement (.crankActiveEdge) := event_case rfl

theorem crankTrailingEdge : Statement (.crankTrailingEdge) := event_case rfl

theorem crankStall : Statement (.crankStall) := event_case rfl

theorem camEdge : Statement (.camEdge) := event_case rfl

theorem camStall : Statement (.camStall) := event_case rfl

theorem startTimerExpiry (request : Sys2Proof.RequestId) : Statement (.startTimerExpiry request) := event_case rfl

theorem latenessExpiry (request : Sys2Proof.RequestId) : Statement (.latenessExpiry request) := event_case rfl

theorem peakRise (bank : Sys2Proof.Bank) : Statement (.peakRise bank) := event_case rfl

theorem peakTimeoutAbort (bank : Sys2Proof.Bank) : Statement (.peakTimeoutAbort bank) := event_case rfl

theorem durationEnd (bank : Sys2Proof.Bank) : Statement (.durationEnd bank) := event_case rfl

theorem shortAssertion (bank : Sys2Proof.Bank) (asserted : Bool) : Statement (.shortAssertion bank asserted) := event_case rfl

theorem rechargeComplete (bank : Sys2Proof.Bank) : Statement (.rechargeComplete bank) := event_case rfl

theorem separationElapse (cylinder : Sys2Proof.Cylinder) : Statement (.separationElapse cylinder) := event_case rfl

theorem lastEndInvalid (cylinder : Sys2Proof.Cylinder) : Statement (.lastEndInvalid cylinder) := event_case rfl

end Sys2Proof.Laws.FrameSyntax
end

