-- ==== Sys2Proof/Laws/Wire.lean ====
section
/-! SUPPORT. Bytes and bits on the wire (R162), and the catalogue's kind codes (R173): reading gives back what was
written. -/

namespace Sys2Proof

/-- A byte's bits, most significant first, spell the byte. -/
theorem byteOfBits_bits (b : Byte) :
    byteOfBits (b.getLsbD 7) (b.getLsbD 6) (b.getLsbD 5) (b.getLsbD 4) (b.getLsbD 3) (b.getLsbD 2) (b.getLsbD 1)
      (b.getLsbD 0) = b := by
  revert b; decide +kernel

/-- The bytes of the bits of bytes are the bytes; bits that follow are read on from there. -/
theorem bytesOfBits_append (bs : List Byte) (rest : List Bool) :
    bytesOfBits (bitsOfBytes bs ++ rest) = bs ++ bytesOfBits rest := by
  induction bs with
  | nil => rfl
  | cons b bs ih =>
    simp only [bitsOfBytes, bitsOfByte, List.cons_append, List.nil_append, bytesOfBits]
    rw [byteOfBits_bits, ih]

@[simp] theorem bytesOfBits_bitsOfBytes (bs : List Byte) : bytesOfBits (bitsOfBytes bs) = bs := by
  simpa [bytesOfBits] using bytesOfBits_append bs []

/-- The whole bytes of a row of bits: one for each eight. -/
theorem bytesOfBits_length (bits : List Bool) : (bytesOfBits bits).length = bits.length / 8 := by
  fun_induction bytesOfBits bits with
  | case1 b7 b6 b5 b4 b3 b2 b1 b0 rest ih =>
    have h : (b7 :: b6 :: b5 :: b4 :: b3 :: b2 :: b1 :: b0 :: rest).length = rest.length + 8 := rfl
    rw [h, List.length_cons, ih]
    omega
  | case2 bits h =>
    rcases bits with _ | ⟨a, _ | ⟨b, _ | ⟨c, _ | ⟨d, _ | ⟨e, _ | ⟨f, _ | ⟨g, _ | ⟨k, rest⟩⟩⟩⟩⟩⟩⟩⟩
    all_goals first | exact (h _ _ _ _ _ _ _ _ _ rfl).elim | simp

/-- Every kind code of the catalogue names its command and no other (R173). -/
@[simp] theorem ofCode_code (c : Command) : Command.ofCode c.code = some c := by cases c <;> decide

/-- A kind byte names a command only when it is that command's code. -/
theorem ofCode_some {k : Byte} {c : Command} (h : Command.ofCode k = some c) : k = c.code := by
  have h2 := List.find?_some (p := fun c : Command => c.code == k) h
  exact (beq_iff_eq.mp h2).symm

namespace Machine

/-! ### The receive buffer (R163) -/

/-- What a row of bytes leaves in the receive buffer: the first 64, and the count to 255. -/
theorem receive_all (bs : List Byte) (l : FramePort) (h : l.rx.length ≤ 64) (hc : l.rxCount ≤ 255) :
    bs.foldl FramePort.receive l =
      { l with rx := (l.rx ++ bs).take 64, rxCount := min 255 (l.rxCount + bs.length) } := by
  induction bs generalizing l with
  | nil =>
    simp only [List.foldl_nil, List.append_nil, List.length_nil, Nat.add_zero]
    rw [List.take_of_length_le h, Nat.min_eq_right hc]
  | cons b bs ih =>
    simp only [List.foldl_cons]
    by_cases hl : l.rx.length < 64
    · rw [ih]
      · simp only [FramePort.receive, if_pos hl, satInc, List.append_assoc, List.singleton_append, List.length_cons]
        congr 1
        omega
      · simp only [FramePort.receive, if_pos hl, List.length_append, List.length_singleton]; omega
      · simp only [FramePort.receive, satInc]; omega
    · have h64 : l.rx.length = 64 := by omega
      rw [ih]
      · simp only [FramePort.receive, if_neg hl, satInc, List.length_cons]
        rw [List.take_append_of_le_length (by omega), List.take_append_of_le_length (by omega)]
        congr 1
        omega
      · simp only [FramePort.receive, if_neg hl]; omega
      · simp only [FramePort.receive, satInc]; omega

end Machine

end Sys2Proof
end

