-- ==== Sys2Proof/Tests/Slice0.lean ====
section
/-! SUPPORT. Tests: the well-formedness smoke tests, the spec's worked examples, one or two steps of each command on
small states, and for each statement with hypotheses a state and operands that meet them together. Expected values
are the spec's own figures, or are computed by hand from its rules; each section names where they stand. -/

namespace Sys2Proof.Tests

open Sys2Proof.Machine Sys2Proof.Safety

set_option maxRecDepth 4000
-- One theorem at a time: each keeps a kernel evaluation in memory.
set_option Elab.async false
set_option linter.unnecessarySeqFocus false

/-! ### Well-formedness: each check refuses an ill-formed command -/

theorem test_payload_of_61_refused : (Instr.nop 1 (List.replicate 61 0)).wellFormed = false := by decide
theorem test_payload_of_60_accepted : (Instr.nop 1 (List.replicate 60 0)).wellFormed = true := by decide
theorem test_cycle_of_no_length_refused : (Instr.refclkCycle 0).wellFormed = false := by decide
theorem test_cycle_of_62500_accepted : (Instr.refclkCycle 62500).wellFormed = true := by decide

/-! ### Worked cases of chapter 02 -/

theorem test_prediction_2_9 : predict 2 (some 2680) 2668 = 2662 ∧ predict 2 (some 2668) 2650 = 2641 := by decide
theorem test_prediction_2_10 : predict 2 (some 2668) 2663 = 2661 := by decide
theorem test_prediction_lower_clamp : predict 4 (some 3000) 1800 = 900 := by decide
theorem test_glitch_threshold : glitchThreshold (some 2662) = 665 ∧ glitchThreshold none = 200 := by decide
theorem test_gap_test_2_10 : gapTest .w60m2 7990 (some 2668) = true ∧ gapTest .w60m2 2650 (some 2668) = false := by
  decide
theorem test_start_delays : startDelay .w60m2 58 2662 = 1608 ∧ startDelay .w60m2 200 2662 = 5546 := by decide
theorem test_start_delays_of_5 : startDelay .w60m2 80 2668 = 2223 ∧ startDelay .w60m2 36 2660 = 998 := by decide
theorem test_zero_delay : startDelay .w60m2 1 40 = 0 ∧ startDelay .w60m2 1 48 = 1 := by decide
theorem test_cam_delays : camDelay 2608 400120 = 90583 ∧ camDelay 11248 400120 = 390673 := by decide
theorem test_cam_delays_of_5 : camDelay 2608 390000 = 88292 ∧ camDelay 11248 390000 = 380792 := by decide
theorem test_crank_estimate : crankEstimate .w60m2 1920 5000000 1 2662 5001000 = 1956 := by decide
theorem test_crank_estimate_bounded : crankEstimate .w60m2 1920 5000000 1 2662 5002700 = 2015 := by decide
theorem test_crank_estimate_in_gap : crankEstimate .w60m2 5472 9000000 3 2662 9999999 = 5759 := by decide
theorem test_speeds : crankSpeed .w60m2 2668 = 1499 ∧ crankSpeed .w60m2 2663 = 1502 ∧ camSpeed 400120 = 1199 ∧
    camSpeed 390000 = 1230 := by decide

/-! ### The tie-break tree under contention (06, worked case) -/

/-- Candidates at positions 2, 4 and 6. -/
def contenders (p : Position) : Bool := p == 2 || p == 4 || p == 6

theorem test_tree_first_two : Tree.lower.walk contenders = 2 ∧ (Tree.lower.served 2).walk contenders = 4 := by decide
theorem test_tree_next_two : ((Tree.lower.served 2).served 4).walk contenders = 2 ∧
    (((Tree.lower.served 2).served 4).served 2).walk contenders = 6 := by decide

/-! ### Frames (09, R167; the CRC by hand from its steps) -/

theorem test_crc_of_not_ready : crc [0x14, 0, 0, 0] = 0x11 := by decide +kernel
theorem test_crc_check_value : crc [0x31, 0x32, 0x33, 0x34, 0x35, 0x36, 0x37, 0x38, 0x39] = 0x20 := by decide +kernel
theorem test_parity_of_limp_default : parityGood State.reset.store.limp = true := by decide

/-! ### States -/

/-- In RUN, the tracker STOPPED, nothing armed. -/
def idle : State := { State.reset with
  control := { State.reset.control with mode := .run, warmupLeft := 0 } }

/-- In RUN with a transaction open that carries. -/
def listening : State := { idle with link := { idle.link with transaction := some .carried, miso := some [] } }

/-- The ring of chapter 03's worked case, or the part of it a test needs: cylinder 5 at position 1. -/
def ring4 : List RingEntry := [⟨.c1, 0, .a⟩, ⟨.c5, 2880, .b⟩, ⟨.c3, 5760, .a⟩, ⟨.c6, 8640, .b⟩]

/-- FULL_SYNC at tooth 20 of revolution A, the worked case of 02 section 2.9: t_k = 5 000 000. -/
def synced : State := { idle with
  tracker := { idle.tracker with
    sync := .fullSync, toothIndex := some 20, revolution := some .a, lastEdge := some ⟨5000000, some 1920⟩
    history := ⟨some 2680, some 2668, some 2662⟩, speed := 1499, cycle := 42, crankTimer := some 5000000
    camHistory := { lastEdge := some 4900000, period := some 320000, missingRun := 0, conflictRun := 0
                    windowFlag := true }
    camTimer := some 4900000 }
  fueling := { idle.fueling with armed := true, state := .normal, lastSync := .fullSync, lastSpeed := 1499 }
  control := { idle.control with timebase := 5002650 } }

/-- CAM_ONLY, the worked case of 05: γ = 6000, C = 400 120, the last cam edge at 20 000 000, cycle 17. -/
def camOnly : State := { idle with
  tracker := { idle.tracker with
    sync := .camOnly, cam := { idle.tracker.cam with gamma := 6000 }, speed := 1199, cycle := 17
    camHistory := { lastEdge := some 20000000, period := some 400120, missingRun := 0, conflictRun := 0
                    windowFlag := false }
    camTimer := some 20000000 }
  table := { idle.table with ring := [⟨.c1, 8640, .a⟩, ⟨.c2, 5760, .b⟩], planPoints := [6720, 3840] }
  store := { idle.store with limp := { kind := .main, start := -32, duration := 400, parity := true } }
  fueling := { idle.fueling with armed := true, limpOn := true, state := .limp, lastSync := .camOnly, lastSpeed := 1199 }
  control := { idle.control with timebase := 20390000 } }

/-- A request of cycle 42. -/
def req (c : Cylinder) (p : Position) (x : Bank) (k : PulseKind) (d late : Nat) (st : RequestState) : Request :=
  { cylinder := c, position := p, bank := x, kind := k, cycle := 42, startAngle := 2880, sortKey := 96, shadow := false
    duration := d, lateness := late, state := st, scheduledStart := none, dueTime := none, dueCause := none
    lateExpiry := none }

/-- The POST of 06's worked case: handed over at 100 000. -/
def post : Request := { req .c3 2 .a .post 12000 240 .due with dueTime := some 100000, lateExpiry := some 100240 }

/-- The MAIN of 06's worked case: handed over at 101 600. -/
def main : Request := { req .c2 4 .a .main 4800 1600 .due with dueTime := some 101600, lateExpiry := some 103200 }

/-- NORMAL at a time, with requests in the queue. -/
def normalAt (t : Time) (rs : List Request) : State := { idle with
  fueling := { idle.fueling with armed := true, state := .normal, lastSync := .fullSync }
  tracker := { idle.tracker with sync := .fullSync, cycle := 42 }
  queue := { idle.queue with requests := rs }
  control := { idle.control with timebase := t } }

/-- The POST driven in a state since 100 000, with its outputs. -/
def drivenPost (t : Time) (st : RequestState) (rest : List Request) : State :=
  let s := normalAt t ({ post with state := st, lateExpiry := none } :: rest)
  { s with
    driveA := { s.driveA with
      charge := if st = .boost then .charging none else .charging (some 102100)
      boostOut := st == .boost, holdOut := st == .hold
      pulse := some { grantTime := 100000, durationEnd := 112000
                      peakExpiry := if st = .boost then some 100600 else none } }
    sel := s.sel.set .c3 true }

/-- What a check says of the next state; false on any other outcome. -/
def next (o : Host.Outcome State Fault Refusal) (p : State → Bool) : Bool :=
  match o with
  | .next s => p s
  | _ => false

/-- The reply a step leaves. -/
def replies (o : Host.Outcome State Fault Refusal) (st : Status) (p : List Byte) : Bool :=
  next o fun t => t.link.reply.status == st && t.link.reply.payload == p

/-! ### The link: R162 to R171, and the worked sequences of chapter 09 -/

theorem test_not_ready_in_warmup :
    next (exec .csNFall State.reset) (fun t => t.link.miso == some [0x14, 0, 0, 0, 0x11]) = true := by decide +kernel
theorem test_reply_waits_for_the_next_fall :
    next (exec .csNFall { idle with link := { idle.link with reply := ⟨.ok, 0x20, [7]⟩ } })
      (fun t => t.link.miso.map (List.take 5) == some [0, 0x20, 1, 1, 7]) = true := by decide +kernel
theorem test_nop_frame_is_carried_out :
    next (exec (.csNRelease (bitsOfBytes [0x00, 0x24, 0x00, 0xF6])) listening)
      (fun t => t.link.reply == ⟨.ok, 0x24, []⟩ && t.link.lastTag == 0x24 && t.link.turnaround == some 16) = true := by
  decide +kernel
theorem test_corrupted_frame_is_discarded :
    next (exec (.csNRelease (bitsOfBytes [0x00, 0x24, 0x00, 0xF7])) listening)
      (fun t => t.link.reply == ⟨.badCrc, 0, []⟩ && t.link.lastTag == 0) = true := by decide +kernel
theorem test_miso_sends_the_most_significant_bit_first :
    (List.range 9).map (misoBit { idle with link := { idle.link with miso := some [0x14] } }) =
      [false, false, false, true, false, true, false, false, false].map some ∧ misoBit idle 0 = none := by decide +kernel
theorem test_turnaround_expires_at_16 :
    next (exec .turnaroundExpiry { idle with
        link := { idle.link with turnaround := some 16 }, control := { idle.control with timebase := 16 } })
      (fun t => t.link.turnaround == none) = true := by decide +kernel

/-! ### Frame commands: one or two steps each -/

theorem test_nop : replies (exec (.nop 9 []) idle) .ok [] = true := by decide +kernel
theorem test_ident : replies (exec (.ident 1 []) idle) .ok [0x60, 0x08, 0x01] = true := by decide +kernel
theorem test_set_wheel_in_tu :
    next (exec (.setWheel 1 [2, 1, 1, 90, 0, 200, 0, 2]) idle) (fun t => t.tracker.wheel ==
      { wheel := .w60m1, activeEdge := .falling, sensor := .directional, dirThreshold := 360, stallTime := 800000
        accel := 2 }) = true := by decide +kernel
theorem test_set_wheel_refused_while_turning :
    replies (exec (.setWheel 1 [2, 1, 1, 90, 0, 200, 0, 2]) synced) .engineTurning [] = true := by decide +kernel
theorem test_set_cam :
    next (exec (.setCam 1 [0x70, 0x17, 240, 0, 0xD0, 0x07, 1]) idle) (fun t => t.tracker.cam ==
      { gamma := 6000, halfWidth := 240, stallTime := 8000000, polarity := .falling }) = true := by decide +kernel
theorem test_set_ring_plan_points :
    next (exec (.setRing 1 ([2, 0xE8, 3, 3] ++ [1, 0, 0, 0] ++ [5, 0x40, 0x0B, 1])) idle)
      (fun t => t.table.planPoints == [10520, 1880] && t.table.planLead == 1000) = true := by decide +kernel
theorem test_set_ring_same_cylinder :
    replies (exec (.setRing 1 ([2, 0xE8, 3, 3] ++ [5, 0, 0, 0] ++ [5, 0x40, 0x0B, 1])) idle) .ringInvalid [1, 1] = true := by
  decide +kernel
theorem test_set_limits_in_tu :
    next (exec (.setLimits 1 [80, 0, 0xA0, 0x0F, 150, 0, 120, 0, 60, 0, 150, 0, 0x90, 1]) idle)
      (fun t => t.queue.limits == State.reset.queue.limits) = true := by decide +kernel
theorem test_set_limits_field_7 :
    replies (exec (.setLimits 1 [80, 0, 0xA0, 0x0F, 150, 0, 120, 0, 60, 0, 150, 0, 49, 0]) idle) .badValue [7] = true := by
  decide +kernel
theorem test_set_fueling_field_6 :
    replies (exec (.setFueling 1 [16, 16, 0xF0, 0x0A, 200, 0, 0]) idle) .badValue [6] = true := by decide +kernel
theorem test_set_limp_stores_even_parity :
    next (exec (.setLimp 1 [0xE0, 0xFF, 0x90, 1]) idle)
      (fun t => t.store.limp == { kind := .main, start := -32, duration := 400, parity := true }) = true := by decide +kernel
theorem test_write_plan_into_the_staging_bank :
    next (exec (.writePlan 1 [5, 1, 2, 0, 0, 0x4C, 4]) idle) (fun t =>
      (t.store.planB.plans.get .c5).map (fun e => (e.kind, e.start, e.duration)) == [(.main, 0, 1100)] &&
        t.store.planA == idle.store.planA) = true := by decide +kernel
theorem test_write_plan_start_order :
    replies (exec (.writePlan 1 ([5, 2] ++ [0, 0, 0, 200, 0] ++ [2, 0, 0, 200, 0])) idle) .badValue [4, 1] = true := by
  decide +kernel
theorem test_copy_active_locked :
    replies (exec (.copyActive 1 []) { idle with store := { idle.store with pendingSwap := some 9 } }) .stagingLocked [] =
      true := by decide +kernel
theorem test_swap_at_once_in_stopped :
    next (exec (.swap 1 [9]) idle) (fun t => t.store.active == .b && t.store.planB.tag == 9 &&
      t.link.reply.payload == [1, 0]) = true := by decide +kernel
theorem test_swap_scheduled_in_full_sync :
    next (exec (.swap 1 [9]) synced) (fun t => t.store.active == .a && t.store.pendingSwap == some 9 &&
      t.link.reply.payload == [0, 0xFF]) = true := by decide +kernel
theorem test_cancel_swap :
    next (exec (.cancelSwap 1 []) { idle with store := { idle.store with pendingSwap := some 9 } })
      (fun t => t.store.pendingSwap == none && t.link.reply.payload == [9]) = true := by decide +kernel
theorem test_read_plan_of_limp :
    replies (exec (.readPlan 1 [2, 0]) idle) .ok [0, 0, 0, 1, 2, 0xE0, 0xFF, 0, 0, 0] = true := by decide +kernel
theorem test_set_cyl_mode :
    next (exec (.setCylMode 1 [3, 2]) idle) (fun t => (t.cyl .c3).hostMode == .cut && (t.cyl .c4).hostMode == .fire) =
      true := by decide +kernel
theorem test_clear_mask :
    next (exec (.clearMask 1 [3]) (idle.setCyl .c3 { idle.cyl .c3 with masked := true, failures := 3 }))
      (fun t => !(t.cyl .c3).masked && (t.cyl .c3).failures == 0 && t.link.reply.payload == [1]) = true := by decide +kernel
theorem test_flush_of_a_driven_cylinder :
    next (exec (.flushCyl 1 [3]) (drivenPost 100700 .hold [])) (fun t => (t.cyl .c3).flushPending &&
      t.link.reply == ⟨.accepted, 1, [0]⟩) = true := by decide +kernel
theorem test_arm_without_sync :
    next (exec (.arm 1 []) idle) (fun t => t.fueling.armed && t.fueling.state == .syncWait) = true := by decide +kernel
theorem test_disarm :
    next (exec (.disarm 1 []) synced) (fun t => !t.fueling.armed && t.fueling.state == .disarmed) = true := by decide +kernel
theorem test_fuel_cut :
    next (exec (.fuelCut 1 [1]) synced) (fun t => t.fueling.hostCut && t.fueling.state == .cut) = true := by decide +kernel
theorem test_release_bank_not_locked : replies (exec (.releaseBank 1 [1]) idle) .notLocked [] = true := by decide +kernel
theorem test_release_bank_condition_present :
    replies (exec (.releaseBank 1 [0]) { idle with pins := { idle.pins with shortA := true } }) .conditionPresent [] =
      true := by decide +kernel
theorem test_read_angle_2_9 :
    replies (exec (.readAngle 1 []) { synced with control := { synced.control with timebase := 5001000 } }) .ok
      [3, 42, 0xDB, 0x05, 0x28, 0x4F, 0x4C, 0, 0xA4, 0x07] = true := by decide +kernel
theorem test_read_status_length :
    next (exec (.readStatus 1 []) idle) (fun t => t.link.reply.payload.length == 92) = true := by decide +kernel
theorem test_read_shadow_of_nothing :
    replies (exec (.readShadow 1 [8]) idle) .ok (0 :: List.replicate 16 0xFF) = true := by decide +kernel
theorem test_read_marks :
    replies (exec (.readMarks 1 []) { idle with queue := { idle.queue with depthMark := 5 } }) .ok [5, 0, 0, 0, 0, 0] =
      true := by decide +kernel
theorem test_read_counters_clears_its_group :
    next (exec (.readCounters 1 [2, 1]) { idle with notices := { idle.notices with glitch := 258, overflow := 3 } })
      (fun t => t.link.reply.payload == [2, 1, 0, 0, 0, 0, 0, 0, 0, 0, 0, 0, 0, 0, 0, 0, 3] && t.notices.glitch == 0 &&
        t.notices.kindCounts[0] == 1) = true := by decide +kernel
theorem test_read_fault_empty :
    replies (exec (.readFault 1 []) idle) .ok ([0, 0] ++ List.replicate 12 0xFF) = true := by decide +kernel
theorem test_clear_fault :
    replies (exec (.clearFault 1 [1]) { idle with notices := { idle.notices with summary := 3 } }) .ok [2] = true := by
  decide +kernel
theorem test_fetch_notices_releases_alert :
    next (exec (.fetchNotices 1 [6]) idle) (fun t => t.link.reply.payload == [1, 0, 0xFF, 0, 0, 0, 0, 0, 0, 0] &&
      !t.notices.alert) = true := by decide +kernel
theorem test_set_notice_mask_keeps_faults_and_reset :
    next (exec (.setNoticeMask 1 [0, 0, 0]) idle) (fun t => t.notices.mask.getLsbD 0 && !t.notices.mask.getLsbD 1) =
      true := by decide +kernel
theorem test_enter_standby_conditions :
    replies (exec (.enterStandby 1 []) synced) .wrongState [3] = true := by decide +kernel
theorem test_set_wake_empty_set : replies (exec (.setWake 1 [0, 2]) idle) .badValue [] = true := by decide +kernel
theorem test_soft_reset :
    next (exec (.softReset 7 []) synced) (fun t => t.tracker.sync == .stopped && t.fueling.state == .disarmed &&
      t.link.reply == ⟨.fresh, 7, []⟩ && t.notices.queue.map (fun n => n.detail) == [1]) = true := by decide +kernel

/-! ### Resets, modes, clock (chapter 11) -/

theorem test_reset_low_then_rise :
    next (exec .resetNLow synced) (fun t => next (exec .resetNRise t) (fun u => u == State.reset)) = true := by
  decide +kernel
theorem test_warmup_end_locks_a_shorted_bank :
    next (exec .warmupEnd { State.reset with pins := { State.reset.pins with shortA := true } }) (fun t =>
      t.control.mode == .run && t.driveA.locked && !t.driveB.locked && t.control.clock == .fallback &&
        t.notices.queue.map (·.kind) == [.reset, .clockLoss, .bankShort]) = true := by decide +kernel
theorem test_wake_level_wakes :
    next (exec (.wakeLevelRise true) { idle with control := { idle.control with mode := .standby } })
      (fun t => t.control.mode == .warmup && t.control.wakeSource == some .wakeLevel && t.control.warmupLeft == 8000) =
      true := by decide +kernel
theorem test_good_cycle_counts :
    next (exec (.refclkCycle 62500) idle) (fun t => t.control.refCount == 1) = true := by decide +kernel
theorem test_missing_edge_switches :
    next (exec .refclkMissing synced) (fun t => t.control.clock == .fallback && t.fueling.state == .cut &&
      t.notices.kindCounts[18] == 1) = true := by decide +kernel

/-! ### Sensors (chapters 01 and 02) -/

theorem test_tooth_21_and_a_glitch_664_after_the_edge :
    next (exec .crankActiveEdge synced) (fun t => t.tracker.toothIndex == some 21 && t.tracker.speed == 1509 &&
      t.tracker.history == ⟨some 2668, some 2650, some 2641⟩ && t.tracker.lastEdge == some ⟨5002650, some 2016⟩) = true ∧
    next (exec .crankActiveEdge { synced with control := { synced.control with timebase := 5000664 } })
      (fun t => t.notices.glitch == 1 && t.tracker == synced.tracker) = true := by decide +kernel
theorem test_trailing_edge_of_a_reverse_pulse :
    next (exec .crankTrailingEdge { synced with tracker := { synced.tracker with pulseStart := some 5002290 } })
      (fun t => t.tracker.sync == .seeking && t.notices.kindCounts[6] == 1) = true := by decide +kernel
theorem test_crank_stall_goes_cam_only :
    next (exec .crankStall { synced with control := { synced.control with timebase := 5800000 } }) (fun t =>
      t.tracker.sync == .camOnly && t.tracker.speed == 1500) = true := by decide +kernel
theorem test_cam_edge_in_cam_only :
    next (exec .camEdge camOnly) (fun t => t.tracker.speed == 1230 && t.tracker.cycle == 18 &&
      t.queue.requests.map (fun r => (r.sortKey, r.scheduledStart)) ==
        [(2608, some 20478292), (11248, some 20770792)]) = true := by decide +kernel
theorem test_cam_stall_outside_cam_only :
    next (exec .camStall { synced with control := { synced.control with timebase := 12900000 } }) (fun t =>
      t.tracker.sync == .fullSync && t.tracker.camHistory.period == none) = true := by decide +kernel

/-! ### Requests, pulses and drive banks (the worked sequences of chapters 05 and 06) -/

/-- The active plan of cylinder 5 in 05's worked sequence. -/
def plan5 : List PlanEntry :=
  [⟨.pilot, -400, 200, true⟩, ⟨.main, 0, 1100, true⟩, ⟨.after, 200, 60, true⟩, ⟨.post, 900, 300, true⟩]

/-- Tooth 20 with that plan, P̂ = 2668 (05, worked sequence). -/
def atPlanTooth : State := { synced with
  store := { synced.store with planA := { synced.store.planA with plans := synced.store.planA.plans.set .c5 plan5 } }
  table := { synced.table with ring := ring4, planLead := 1000, planPoints := [10520, 1880, 4760, 7640] } }

theorem test_start_timer_expiry :
    next (exec (.startTimerExpiry ⟨.c3, .post, 42⟩) (normalAt 100000 [{ req .c3 2 .a .post 12000 240 .armed with scheduledStart := some 100000 }])) (fun t =>
      t.queue.requests.map (fun r => (r.state, r.dueTime, r.dueCause)) == [(.boost, some 100000, some .expiry)] &&
        t.driveA.boostOut && t.sel.c3 && t.driveA.pulse == some ⟨100000, 112000, some 100600⟩ &&
        t.driveA.tree == Tree.lower.served 2) = true := by decide +kernel
theorem test_lateness_expiry :
    next (exec (.latenessExpiry ⟨.c3, .post, 42⟩) { normalAt 100240 [post] with driveA := { idle.driveA with locked := true } })
      (fun t => t.queue.requests == [] && t.notices.dropCounts[0] == 1) = true := by decide +kernel
theorem test_peak_rise :
    next (exec (.peakRise .a) (drivenPost 100500 .boost [])) (fun t => t.driveA.holdOut && !t.driveA.boostOut &&
      t.driveA.charge == .charging (some 102100) && t.queue.requests.map (·.state) == [.hold]) = true := by decide +kernel
theorem test_peak_timeout :
    next (exec (.peakTimeoutAbort .a) (drivenPost 100600 .boost [])) (fun t => !t.driveA.boostOut &&
      t.queue.requests == [] && (t.cyl .c3).failures == 1 && (t.cyl .c3).lastEnd == some 100600 &&
      t.driveA.charge == .charging (some 102200) && t.notices.dropCounts[8] == 1) = true := by decide +kernel
theorem test_duration_end :
    next (exec (.durationEnd .a) (drivenPost 112000 .hold [])) (fun t => !t.driveA.holdOut && !t.sel.c3 &&
      (t.cyl .c3).lastEnd == some 112000 && t.queue.requests == []) = true := by decide +kernel
theorem test_short_assertion :
    next (exec (.shortAssertion .a true) (drivenPost 100700 .hold [])) (fun t => t.driveA.locked && !t.driveA.holdOut &&
      t.notices.kindCounts[14] == 1 && t.notices.dropCounts[8] == 1) = true := by decide +kernel
theorem test_recharge_grants_the_main :
    next (exec (.rechargeComplete .a) { normalAt 102100 [main] with
        driveA := { idle.driveA with charge := .charging (some 102100) } }) (fun t =>
      t.queue.requests.map (·.state) == [.boost] && t.driveA.waitMark == 125 &&
        t.driveA.pulse == some ⟨102100, 106900, some 102700⟩) = true := by decide +kernel
theorem test_separation_elapse :
    next (exec (.separationElapse .c2) ((normalAt 102200 [main]).setCyl .c2 { idle.cyl .c2 with lastEnd := some 101600 }))
      (fun t => t.queue.requests.map (·.state) == [.boost]) = true := by decide +kernel
theorem test_last_end_invalid :
    next (exec (.lastEndInvalid .c2) ((normalAt 109600 []).setCyl .c2 { idle.cyl .c2 with lastEnd := some 101600 }))
      (fun t => (t.cyl .c2).lastEnd == none) = true := by decide +kernel
theorem test_plan_tooth :
    let t := planPosition { time := 1000000, angle := 1920, spanBefore := 1, spanNext := 1, predicted := 2668 } 1 atPlanTooth
    (t.queue.requests.map (fun r => (r.kind, r.startAngle, r.sortKey, r.duration)) ==
      [(.pilot, 2480, 560, 800), (.main, 2880, 960, 4400), (.post, 3780, 1860, 1200)] &&
        t.notices.dropCounts[7] == 1) = true := by decide +kernel
theorem test_truncation :
    next (exec (.separationElapse .c2) (drivenPost 101600 .hold [main])) (fun t =>
      t.queue.requests == [main] && (t.cyl .c3).lastEnd == some 101600 && t.notices.kindCounts[11] == 1) = true := by
  decide +kernel

/-! ### States and operands that meet the hypotheses of the statements

Each theorem is named after its statement. Statements whose only hypothesis is that the part is in RUN are met by
`idle` and by `synced`. -/

/-- In STANDBY. -/
def asleep : State := { idle with control := { idle.control with mode := .standby } }

/-- In SEEKING with one period recorded, 800 tu after the last edge. -/
def seeking : State := { idle with
  tracker := { idle.tracker with sync := .seeking, lastEdge := some ⟨200, none⟩, history := ⟨none, some 800, some 800⟩ }
  control := { idle.control with timebase := 1000 } }

/-- One entry of a cylinder plan. -/
def raw0 : RawEntry := ⟨2, 0, 1100⟩

theorem witness_IdleTakesExpiriesThenPassesTime : idle.pending = [] ∧ idle.running = true ∧ idle.pins.resetLow = false ∧
    expiries idle = [] ∧ expiries { idle with link := { idle.link with turnaround := some 0 } } = [.turnaroundExpiry] := by
  decide +kernel

theorem witness_WarmupAndStandbyPassTheirTime : State.reset.pending = [] ∧ State.reset.pins.resetLow = false ∧
    State.reset.control.mode = .warmup ∧ State.reset.control.warmupLeft = 8000 ∧ asleep.pending = [] ∧
    asleep.pins.resetLow = false ∧ asleep.control.mode = .standby ∧
    ({ idle.pins with resetLow := true } : Pins).resetLow = true := by decide +kernel

theorem witness_WrittenFrameReadsBack : (List.replicate 60 (0xFF : Byte)).length ≤ 60 := by decide

theorem listening_listens : Listening listening := ⟨rfl, rfl, rfl, rfl⟩

theorem witness_SentFrameHasItsCommandsEffect : (Instr.nop 0x24 []).wellFormed = true ∧
    (Instr.nop 0x24 []).wireBits = some (bitsOfBytes [0x00, 0x24, 0x00, 0xF6]) ∧ Listening listening :=
  ⟨rfl, by decide +kernel, listening_listens⟩

theorem witness_FailedFrameIsDiscarded : Listening listening ∧ (List.replicate 23 true).length < 24 ∧
    60 < (61 : Byte).toNat ∧ ([1, 2] : List Byte).length < (2 : Byte).toNat + 1 ∧ (List.replicate 60 (0 : Byte)).length ≤ 60 ∧
    (0xF7 : Byte) ≠ crc (0x00 :: 0x24 :: byte 0 :: []) ∧ Command.ofCode 0xFF = none :=
  ⟨listening_listens, by decide, by decide, by decide, by decide, by decide +kernel, by decide +kernel⟩

theorem witness_TransactionsAreJudgedByMode : idle.pins.resetLow = false ∧ State.reset.pins.resetLow = false ∧
    asleep.pins.resetLow = false ∧
    (∃ s : State, s.running = true ∧ s.link.transaction = some .busy) ∧
    (∃ s : State, s.link.transaction = some .notReady) ∧ (∃ s : State, s.link.transaction = some .unanswered) ∧
    (∃ s : State, s.running = true ∧ s.link.turnaround = some 16 ∧ reached 16 s.control.timebase = true) :=
  ⟨rfl, rfl, rfl, ⟨{ idle with link := { idle.link with transaction := some .busy } }, rfl, rfl⟩,
    ⟨{ idle with link := { idle.link with transaction := some .notReady } }, rfl⟩,
    ⟨{ idle with link := { idle.link with transaction := some .unanswered } }, rfl⟩,
    ⟨{ idle with link := { idle.link with turnaround := some 16 }
                 control := { idle.control with timebase := 16 } }, rfl, rfl, rfl⟩⟩

theorem witness_FrameCommandsNeedRunAndTheirLength : asleep.running = false ∧ idle.running = true ∧
    payloadLength .arm = some 0 ∧ ([1] : List Byte).length ≠ 0 ∧ idle.tracker.sync = .stopped ∧
    ([1, 0, 0, 0] : List Byte).length ≠ 4 + 4 * u8 [1, 0, 0, 0] 0 ∧ idle.store.pendingSwap = none ∧
    ([1, 1] : List Byte).length ≠ 2 + 5 * u8 [1, 1] 1 ∧ ([] : List Byte).length ≠ 4 := by decide +kernel

theorem witness_StatusAndAngleRepliesFollowTheLayout : synced.running = true ∧ synced.tracker.sync = .fullSync ∧
    synced.tracker.lastEdge = some ⟨5000000, some 1920⟩ ∧ synced.tracker.toothIndex = some 20 ∧
    synced.tracker.history.predicted = some 2662 ∧
    2015 = (1920 + min ((synced.control.timebase - 5000000).toNat * ticksPerTooth .w60m2 / 2662)
      (spanAfter .w60m2 20 * ticksPerTooth .w60m2 - 1)) % 11520 ∧
    camOnly.tracker.sync = .camOnly ∧ camOnly.tracker.camHistory.lastEdge = some 20000000 ∧
    camOnly.tracker.camHistory.period = some 400120 ∧ idle.tracker.sync = .stopped := by decide +kernel

theorem witness_ReadingCommandsOnlyReply : synced.running = true := rfl
theorem witness_FetchMaskAndClearFault : synced.running = true := rfl
theorem witness_MarksAndCountersAreReadAndReset : synced.running = true := rfl
theorem witness_TrackerSettingsAreReplacedInStopped : idle.running = true ∧ idle.tracker.sync = .stopped ∧
    synced.running = true ∧ synced.tracker.sync ≠ .stopped := by decide +kernel

/-! Ring checks, each first at a position of a small ring. -/

theorem ring4_passes : ∀ k p, ¬ RingFails 1000 ring4 idle.store k p := by
  intro k p h
  match k with
  | 0 => exact h
  | 1 =>
    obtain ⟨i, x, y, hi, hx, hy, he⟩ := h
    have : p < 4 := (List.getElem?_eq_some_iff.1 hy).1
    interval_cases p <;> interval_cases i <;> simp_all [ring4] <;> subst hx <;> subst hy <;> simp at he
  | 2 =>
    obtain ⟨x, y, hx, hy, he⟩ := h
    have : p + 1 < 4 := (List.getElem?_eq_some_iff.1 hy).1
    have : p < 3 := by omega
    interval_cases p <;> simp_all [ring4] <;> subst hx <;> subst hy <;> simp at he
  | 3 =>
    rcases h with ⟨x, y, hx, hy, he⟩ | ⟨x, y, hx, hy, hp, he⟩
    · have : p + 1 < 4 := (List.getElem?_eq_some_iff.1 hy).1
      have : p < 3 := by omega
      interval_cases p <;> simp_all [ring4] <;> subst hx <;> subst hy <;> simp at he
    · have : p + 1 = 4 := hp
      have : p = 3 := by omega
      subst this
      simp [ring4] at hx hy
      subst hx; subst hy; simp at he
  | 4 =>
    obtain ⟨_, e, he, hs⟩ := h
    rcases he with rfl | ⟨c, hc | hc⟩
    · exact absurd hs (by decide +kernel)
    · cases c <;> cases hc
    · cases c <;> cases hc
  | n + 5 => exact h

theorem witness_RingIsAcceptedOrRefusedByItsChecks : idle.running = true ∧ idle.tracker.sync = .stopped ∧
    1 ≤ ring4.length ∧ ring4.length ≤ 8 ∧ (∀ e ∈ ring4, e.tdc ≤ 11519) ∧ 960 ≤ word 0xE8 3 ∧ word 0xE8 3 ≤ 2880 ∧
    word 0xE8 3 = 1000 ∧ 1 ≤ (1 : Byte).toNat ∧ (15 : Byte).toNat ≤ 15 ∧
    (∀ k p, ¬ RingFails 1000 ring4 idle.store k p) :=
  ⟨rfl, rfl, by decide, by decide, by decide, by decide, by decide, by decide, by decide, by decide, ring4_passes⟩

theorem witness_ring_first_failure_1 : FirstFailure (RingFails 1000 [⟨.c1, 0, .a⟩, ⟨.c1, 480, .b⟩] idle.store) 1 1 := by
  refine ⟨⟨0, _, _, by decide, rfl, rfl, rfl⟩, fun k j h => ?_⟩
  match k with
  | 0 => exact h.elim
  | 1 => obtain ⟨i, x, y, hi, -⟩ := h; exact .inr ⟨rfl, by omega⟩
  | k + 2 => exact .inl (by omega)

theorem witness_ring_first_failure_2 : FirstFailure (RingFails 1000 [⟨.c1, 480, .a⟩, ⟨.c2, 480, .b⟩] idle.store) 2 0 := by
  refine ⟨⟨_, _, rfl, rfl, by decide⟩, fun k j h => ?_⟩
  match k with
  | 0 => exact h.elim
  | 1 =>
    obtain ⟨i, x, y, hi, hx, hy, he⟩ := h
    have : j < 2 := (List.getElem?_eq_some_iff.1 hy).1
    interval_cases j <;> interval_cases i <;> simp_all <;> subst hx <;> subst hy <;> simp at he
  | 2 => exact .inr ⟨rfl, by omega⟩
  | k + 3 => exact .inl (by omega)

theorem witness_ring_first_failure_3 : FirstFailure (RingFails 1000 [⟨.c1, 0, .a⟩, ⟨.c2, 479, .b⟩] idle.store) 3 0 := by
  refine ⟨.inl ⟨_, _, rfl, rfl, by decide⟩, fun k j h => ?_⟩
  match k with
  | 0 => exact h.elim
  | 1 =>
    obtain ⟨i, x, y, hi, hx, hy, he⟩ := h
    have : j < 2 := (List.getElem?_eq_some_iff.1 hy).1
    interval_cases j <;> interval_cases i <;> simp_all <;> subst hx <;> subst hy <;> simp at he
  | 2 =>
    obtain ⟨x, y, hx, hy, he⟩ := h
    have : j + 1 < 2 := (List.getElem?_eq_some_iff.1 hy).1
    have : j < 1 := by omega
    interval_cases j <;> simp_all <;> subst hx <;> subst hy <;> simp at he
  | 3 => exact .inr ⟨rfl, by omega⟩
  | k + 4 => exact .inl (by omega)

/-- The limp plan starts 480 less 2880, below what a plan lead of 960 allows. -/
def longLead : Store := { idle.store with limp := { kind := .main, start := -2400, duration := 0, parity := false } }

theorem witness_ring_first_failure_4 : FirstFailure (RingFails 960 [⟨.c1, 0, .a⟩] longLead) 4 255 := by
  refine ⟨⟨rfl, _, .inl rfl, by decide⟩, fun k j h => ?_⟩
  match k with
  | 0 => exact h.elim
  | 1 =>
    obtain ⟨i, x, y, hi, hx, hy, he⟩ := h
    have : j < 1 := (List.getElem?_eq_some_iff.1 hy).1
    omega
  | 2 =>
    obtain ⟨x, y, hx, hy, he⟩ := h
    have : j + 1 < 1 := (List.getElem?_eq_some_iff.1 hy).1
    omega
  | 3 =>
    rcases h with ⟨x, y, hx, hy, he⟩ | ⟨x, y, hx, hy, hp, he⟩
    · have : j + 1 < 1 := (List.getElem?_eq_some_iff.1 hy).1
      omega
    · have hj : j + 1 = 1 := hp
      have : j = 0 := by omega
      subst this
      simp at hx hy
      subst hx; subst hy; simp at he
  | 4 => exact .inr ⟨rfl, le_of_eq h.1.symm⟩
  | k + 5 => exact .inl (by omega)

theorem witness_CylinderCommandsActOnTheirCylinder : synced.running = true ∧ cylOfNumber (8 : Byte).toNat = some .c8 ∧
    cylOfNumber (0 : Byte).toNat = none ∧ cylOfNumber (9 : Byte).toNat = none := by decide +kernel

/-! Plan checks, each first at an entry of a small plan. -/

theorem witness_WritePlanStoresOrReportsTheFirstFailure : idle.running = true ∧ idle.store.pendingSwap = none ∧
    Carried raw0 ∧ ([⟨.main, 0, 1100, true⟩] : List PlanEntry).map (fun e => (⟨kindCode e.kind, e.start, e.duration⟩ : RawEntry)) =
      [raw0] ∧
    PlanInOrder 1920 [⟨.main, 0, 1100, true⟩] ∧ parityGood ⟨.main, 0, 1100, true⟩ = true := by
  refine ⟨rfl, rfl, ?_, rfl, ⟨by simp, ?_⟩, by decide +kernel⟩
  · simp [Carried, raw0]
  · simp [EntryInRange]

theorem witness_plan_first_failure_2 : FirstFailure (EntryFails 1920 [⟨5, 0, 0⟩]) 2 0 := by
  refine ⟨⟨_, rfl, by decide⟩, fun k j h => ?_⟩
  match k with
  | 0 => exact h.elim
  | 1 => exact h.elim
  | 2 => exact .inr ⟨rfl, by omega⟩
  | k + 3 => exact .inl (by omega)

theorem witness_plan_first_failure_3 : FirstFailure (EntryFails 1920 [⟨2, 0, 0⟩, ⟨2, 1, 0⟩]) 3 1 := by
  refine ⟨⟨0, _, _, rfl, rfl, rfl, by decide⟩, fun k j h => ?_⟩
  match k with
  | 0 => exact h.elim
  | 1 => exact h.elim
  | 2 =>
    obtain ⟨e, he, hk⟩ := h
    have : j < 2 := (List.getElem?_eq_some_iff.1 he).1
    interval_cases j <;> simp at he <;> subst he <;> simp at hk
  | 3 => obtain ⟨i, x, y, rfl, -⟩ := h; exact .inr ⟨rfl, by omega⟩
  | k + 4 => exact .inl (by omega)

theorem witness_plan_first_failure_4 : FirstFailure (EntryFails 1920 [⟨1, 0, 0⟩, ⟨2, 0, 0⟩]) 4 1 := by
  refine ⟨⟨0, _, _, rfl, rfl, rfl, by decide⟩, fun k j h => ?_⟩
  match k with
  | 0 => exact h.elim
  | 1 => exact h.elim
  | 2 =>
    obtain ⟨e, he, hk⟩ := h
    have : j < 2 := (List.getElem?_eq_some_iff.1 he).1
    interval_cases j <;> simp at he <;> subst he <;> simp at hk
  | 3 =>
    obtain ⟨i, x, y, rfl, hx, hy, he⟩ := h
    have : i + 1 < 2 := (List.getElem?_eq_some_iff.1 hy).1
    have : i < 1 := by omega
    interval_cases i
    simp at hx hy
    subst hx; subst hy; simp at he
  | 4 => obtain ⟨i, x, y, rfl, -⟩ := h; exact .inr ⟨rfl, by omega⟩
  | k + 5 => exact .inl (by omega)

theorem witness_plan_first_failure_5 : FirstFailure (EntryFails 1920 [⟨2, -1441, 0⟩]) 5 0 ∧
    FirstFailure (EntryFails 1920 [⟨2, 2881, 0⟩]) 5 0 := by
  constructor
  all_goals
    refine ⟨⟨_, rfl, by decide⟩, fun k j h => ?_⟩
    match k with
    | 0 => exact h.elim
    | 1 => exact h.elim
    | 2 =>
      obtain ⟨e, he, hk⟩ := h
      have : j < 1 := (List.getElem?_eq_some_iff.1 he).1
      interval_cases j
      simp at he; subst he; simp at hk
    | 3 =>
      obtain ⟨i, x, y, rfl, hx, hy, he⟩ := h
      have : i + 1 < 1 := (List.getElem?_eq_some_iff.1 hy).1
      omega
    | 4 =>
      obtain ⟨i, x, y, rfl, hx, hy, he⟩ := h
      have : i + 1 < 1 := (List.getElem?_eq_some_iff.1 hy).1
      omega
    | 5 => exact .inr ⟨rfl, by omega⟩
    | k + 6 => exact .inl (by omega)

theorem witness_plan_first_failure_6 : FirstFailure (EntryFails 1920 [⟨2, -1440, 10001⟩]) 6 0 := by
  refine ⟨⟨_, rfl, by decide⟩, fun k j h => ?_⟩
  match k with
  | 0 => exact h.elim
  | 1 => exact h.elim
  | 2 =>
    obtain ⟨e, he, hk⟩ := h
    have : j < 1 := (List.getElem?_eq_some_iff.1 he).1
    interval_cases j
    simp at he; subst he; simp at hk
  | 3 =>
    obtain ⟨i, x, y, rfl, hx, hy, he⟩ := h
    have : i + 1 < 1 := (List.getElem?_eq_some_iff.1 hy).1
    omega
  | 4 =>
    obtain ⟨i, x, y, rfl, hx, hy, he⟩ := h
    have : i + 1 < 1 := (List.getElem?_eq_some_iff.1 hy).1
    omega
  | 5 =>
    obtain ⟨e, he, hk⟩ := h
    have : j < 1 := (List.getElem?_eq_some_iff.1 he).1
    interval_cases j
    simp at he; subst he; simp at hk
  | 6 => exact .inr ⟨rfl, by omega⟩
  | k + 7 => exact h.elim

theorem witness_SetLimpReplacesTheLimpPlan : synced.running = true := rfl
theorem witness_CopyActiveFillsTheStagingBank : synced.running = true ∧ synced.store.pendingSwap = none ∧
    ({ synced.store with pendingSwap := some 9 } : Store).pendingSwap.isSome = true := ⟨rfl, rfl, rfl⟩
theorem witness_SwapIsScheduledOrTakesEffect : synced.running = true ∧ idle.running = true := ⟨rfl, rfl⟩

/-! ### Limits and fueling -/

/-- The limits of the pin reset, as SET_LIMITS carries them. -/
def limits0 : List Byte := [80, 0, 0xA0, 0x0F, 150, 0, 120, 0, 60, 0, 150, 0, 0x90, 1]

/-- The seven values of a payload. -/
def usOfPayload (p : List Byte) (k : Nat) : Nat := word (p.getD (2 * k - 2) 0) (p.getD (2 * k - 1) 0)

theorem limits0_pass : ∀ k, ¬ LimitFails (usOfPayload limits0) k := by
  intro k h
  match k with
  | 0 => exact h
  | 1 => revert h; simp [LimitFails, usOfPayload, limits0, word]
  | 2 => revert h; simp [LimitFails, usOfPayload, limits0, word]
  | 3 => revert h; simp [LimitFails, usOfPayload, limits0, word]
  | 4 => revert h; simp [LimitFails, usOfPayload, limits0, word]
  | 5 => revert h; simp [LimitFails, usOfPayload, limits0, word]
  | 6 => revert h; simp [LimitFails, usOfPayload, limits0, word]
  | 7 => revert h; simp [LimitFails, usOfPayload, limits0, word]
  | 8 => revert h; simp [LimitFails, usOfPayload, limits0, word]
  | k + 9 => exact h

theorem witness_SetLimitsReplacesAllSeven : synced.running = true ∧ limits0.length = 14 ∧
    (∀ k lo hi, k < 7 → limits0[2 * k]? = some lo → limits0[2 * k + 1]? = some hi →
      usOfPayload limits0 (k + 1) = word lo hi) ∧
    (∀ k, ¬ LimitFails (usOfPayload limits0) k) := by
  refine ⟨rfl, rfl, ?_, limits0_pass⟩
  intro k lo hi hk h0 h1
  interval_cases k <;> simp [limits0] at h0 h1 <;> subst h0 <;> subst h1 <;> rfl

theorem witness_limits_first_failure : FirstFailure (fun k _ => LimitFails (fun _ => 2001) k) 1 0 := by
  refine ⟨.inr (by decide), fun k j h => ?_⟩
  match k with
  | 0 => exact h.elim
  | 1 => exact .inr ⟨rfl, by omega⟩
  | k + 2 => exact .inl (by omega)

theorem witness_FuelingStateIsTheFirstMatchingRow : ∃ r ∈ (normalAt 100000 [post]).queue.requests, driving r.state = false := by
  decide +kernel

theorem witness_FuelingCommandsSetAndDerive : idle.running = true ∧
    (∀ k, ¬ FuelingFails (4 : Byte).toNat (16 : Byte).toNat (word 0xF0 0x0A) (word 200 0) (0 : Byte).toNat k) ∧
    FirstFailure (fun k (_ : Nat) => FuelingFails 16 16 2800 200 0 k) 6 0 := by
  refine ⟨rfl, ?_, ?_, ?_⟩
  · intro k h
    match k with
    | 0 => exact h
    | 1 => revert h; simp [FuelingFails]
    | 2 => revert h; simp [FuelingFails]
    | 3 => revert h; simp [FuelingFails, word]
    | 4 => revert h; simp [FuelingFails, word]
    | 5 => revert h; simp [FuelingFails]
    | 6 => revert h; simp [FuelingFails]
    | k + 7 => exact h
  · simp [FuelingFails]
  · intro k j h
    match k with
    | 0 => exact h.elim
    | 1 => simp [FuelingFails] at h
    | 2 => simp [FuelingFails] at h
    | 3 => simp [FuelingFails] at h
    | 4 => simp [FuelingFails] at h
    | 5 => simp [FuelingFails] at h
    | 6 => exact .inr ⟨rfl, by omega⟩
    | k + 7 => exact h.elim

/-! ### The Drive Arbiter and pulses -/

theorem witness_TreeFindsACandidateAndSharesTheBank : contenders 2 = true ∧ contenders 4 = true ∧
    (4 : Position).val / 4 ≠ (2 : Position).val / 4 ∧ (6 : Position).val / 2 ≠ (4 : Position).val / 2 := by decide

theorem witness_AuctionGrantsTheChosenCandidate : main ∈ candidates .a (normalAt 102100 [main]) ∧
    (normalAt 102100 [main]).driveA.locked = false ∧
    candidates .a (judgeTruncation .a (normalAt 102100 [main])) ≠ [] ∧
    candidates .a (judgeTruncation .a (drivenPost 101600 .hold [main])) = [] ∧
    ({ idle.driveA with locked := true } : DriveBank).locked = true ∧ main ∈ (normalAt 102100 [main]).queue.requests := by
  decide +kernel

theorem witness_WaitingMainTruncatesAfterOrPostInHold :
    occupant .a (drivenPost 101600 .hold [main]) = some { post with state := .hold, lateExpiry := none } ∧
    (drivenPost 101600 .hold [main]).driveA.pulse = some ⟨100000, 112000, none⟩ ∧
    (∃ m ∈ waiting .a (drivenPost 101600 .hold [main]), m.kind = .main ∧ m.cylinder ≠ .c3) := by decide +kernel

theorem witness_ReleaseRechargeAndSeparationAuction :
    let s : State := ({ normalAt 102200 [main] with driveA := { idle.driveA with charge := .charging (some 102100) } }).setCyl
      .c2 { idle.cyl .c2 with lastEnd := some 101600 }
    s.running = true ∧ s.driveA.charge = .charging (some 102100) ∧ (s.control.timebase - 102100).toNat < 2 ^ 31 ∧
      (s.cyl .c2).lastEnd = some 101600 ∧
      (s.control.timebase - (101600 + BitVec.ofNat 32 s.queue.limits.minSeparation)).toNat < 2 ^ 31 := by decide +kernel

theorem witness_LatenessDropsAndLastEndExpires :
    let s : State := (normalAt 109600 [post]).setCyl .c2 { idle.cyl .c2 with lastEnd := some 101600 }
    s.running = true ∧ (s.cyl .c2).lastEnd = some 101600 ∧ (s.control.timebase - (101600 + 8000)).toNat < 2 ^ 31 ∧
      findRequest ⟨.c3, .post, 42⟩ s = some post := by decide +kernel

theorem witness_PeakEndsTheBoostPhase : (drivenPost 100500 .boost []).running = true := rfl

theorem witness_PeakTimeoutAbortsInOrder :
    let s := drivenPost 100600 .boost []
    s.running = true ∧ drivers .a s = [{ post with state := .boost, lateExpiry := none }] ∧
      s.driveA.pulse = some ⟨100000, 112000, some 100600⟩ ∧ (s.control.timebase - 100600).toNat < 2 ^ 31 := by
  decide +kernel

theorem witness_DurationEndEndsThePulse :
    let s := drivenPost 112000 .hold []
    s.running = true ∧ occupant .a s = some { post with state := .hold, lateExpiry := none } ∧
      s.driveA.pulse = some ⟨100000, 112000, none⟩ ∧ (s.control.timebase - 112000).toNat < 2 ^ 31 := by decide +kernel

/-! ### Planning -/

/-- The POST armed for 100 000. -/
def armedPost : Request := { req .c3 2 .a .post 12000 240 .armed with scheduledStart := some 100000 }

theorem witness_RequestBecomesDueAtItsStartOrTheEdge :
    let s := normalAt 100000 [armedPost]
    s.running = true ∧ findRequest armedPost.id s = some armedPost ∧ armedPost.state = .armed ∧
      armedPost.scheduledStart = some 100000 ∧ (s.control.timebase - 100000).toNat < 2 ^ 31 ∧
      post ∈ (normalAt 100000 [post]).queue.requests ∧ post.dueTime = some 100000 ∧ post.shadow = false ∧
      ({ post with shadow := true } : Request) ∈ (normalAt 100000 [{ post with shadow := true }]).queue.requests := by
  decide +kernel

theorem test_two_misses_at_a_tooth :
    let t := queueTooth { time := 100000, angle := 1920, spanBefore := 1, spanNext := 1, predicted := 2668 }
      (normalAt 100000 [armedPost, { req .c2 4 .a .main 4800 1600 .armed with scheduledStart := some 100010 }])
    (t.queue.requests.map (fun r => (r.kind, r.state, r.dueTime)) ==
        [(.main, .boost, some 100000), (.post, .due, some 100000)] &&
      t.notices.predictionMiss == 2) = true := by decide +kernel

/-- A POST whose lateness limit is 0. -/
def hurried : Request := { armedPost with lateness := 0 }

theorem test_limit_of_0_gets_its_own_auction_and_no_later :
    next (exec (.startTimerExpiry hurried.id) (normalAt 100000 [hurried])) (fun t =>
      t.queue.requests.map (·.state) == [.boost]) = true ∧
    next (exec (.startTimerExpiry hurried.id) { normalAt 100000 [hurried] with
        driveA := { idle.driveA with charge := .charging (some 100000) } }) (fun t =>
      t.queue.requests == [] && t.notices.dropCounts[0] == 1) = true := by decide +kernel

theorem witness_ToothReducesKeysAndArms :
    let s := normalAt 100000 [{ armedPost with sortKey := 97 }, { req .c5 1 .b .pilot 800 240 .planned with sortKey := 192 }]
    (∀ r ∈ s.queue.requests, r.state = .armed → (1 : Int) * (5760 / pitches .w60m2 : Nat) < r.sortKey) ∧
      (∀ r ∈ s.queue.requests, r.state = .planned → (1 : Int) * (5760 / pitches .w60m2 : Nat) < r.sortKey) := by
  decide +kernel

theorem witness_PositionIsNamedAndTakenUp : atPlanTooth.table.ring[1]? = some ⟨.c5, 2880, .b⟩ ∧
    atPlanTooth.table.planPoints[1]? = some 1880 ∧ 1 * ticksPerTooth .w60m2 < 11520 ∧ (1880 + 40) % 11520 = 1920 ∧
    (atPlanTooth.cyl .c5).cyclePlanned = false ∧ atPlanTooth.fueling.state = .normal ∧
    (atPlanTooth.cyl .c5).masked = false ∧ (atPlanTooth.cyl .c5).hostMode ≠ .cut := by decide +kernel

theorem witness_PlanEntersTheQueueAsRequests : atPlanTooth.fueling.state = .normal ∧
    effectiveMode (atPlanTooth.cyl .c5) ≠ .cut ∧ (∀ x ∈ plan5, parityGood x = true) ∧
    (atPlanTooth.store.planA.plans.get .c5) = plan5 ∧
    atPlanTooth.queue.requests.length + (plan5.filter (fun x => decide (320 ≤ 4 * x.duration))).length ≤ 16 ∧
    ({ atPlanTooth.fueling with state := .aged } : Fueling).state = .aged ∧ parityGood atPlanTooth.store.limp = true ∧
    16 ≤ (List.replicate 16 main).length := by
  decide +kernel

theorem test_aged_plans_the_capped_main :
    let t := planPosition { time := 1000000, angle := 1920, spanBefore := 1, spanNext := 1, predicted := 2668 } 1
      { atPlanTooth with
        store := { atPlanTooth.store with limp := camOnly.store.limp }
        fueling := { atPlanTooth.fueling with state := .aged } }
    (t.queue.requests.map (fun r => (r.kind, r.startAngle, r.sortKey, r.duration)) == [(.main, 2880, 960, 1600)]) = true := by
  decide +kernel

/-- CAM_ONLY with a limp entry that starts position 1 at γ. -/
def limpAtEdge : State := { camOnly with
  store := { camOnly.store with limp := { camOnly.store.limp with start := 240, parity := false } } }

theorem test_limp_start_at_the_cam_edge :
    next (exec .camEdge limpAtEdge) (fun t => t.queue.requests.map (fun r => (r.cylinder, r.state, r.dueCause)) ==
      [(.c2, .boost, some .immediate), (.c1, .armed, none)]) = true := by decide +kernel

theorem witness_limp_request_at_the_cam_edge : limpAtEdge.table.ring[1]? = some ⟨.c2, 5760, .b⟩ ∧
    limpAtEdge.fueling.state = .limp ∧ effectiveMode (limpAtEdge.cyl .c2) ≠ .cut ∧
    ((((5760 : Nat) : Int) + limpAtEdge.store.limp.start) % 11520 - limpAtEdge.tracker.cam.gamma) % 11520 = 0 ∧
    parityGood limpAtEdge.store.limp = true ∧ parityGood { camOnly.store.limp with parity := false } = false := by decide +kernel

theorem witness_LimpRequestIsTimedFromTheCamEdge : camOnly.table.ring[0]? = some ⟨.c1, 8640, .a⟩ ∧
    camOnly.fueling.state = .limp ∧ effectiveMode (camOnly.cyl .c1) ≠ .cut ∧ parityGood camOnly.store.limp = true ∧
    camOnly.store.limp.kind = .main ∧
    ((((8640 : Nat) : Int) + camOnly.store.limp.start) % 11520 - camOnly.tracker.cam.gamma) % 11520 = 2608 ∧
    camOnly.queue.requests.length < 16 ∧ camOnly.queue.limits.minPulse ≤ 4 * camOnly.store.limp.duration ∧
    4 * camOnly.store.limp.duration ≤ camOnly.queue.limits.maxPulse := by decide +kernel

/-! ### Crank and cam edges -/

theorem witness_GlitchesAndFirstEdges : synced.running = true ∧ synced.tracker.lastEdge = some ⟨5000000, some 1920⟩ ∧
    synced.tracker.sync ≠ .camOnly ∧ synced.tracker.sync ≠ .stopped ∧ synced.tracker.history.predicted = some 2662 ∧
    ((5000664 : Time) - 5000000).toNat < 2662 / 4 ∧ idle.tracker.sync = .stopped ∧
    ({ seeking.tracker with lastEdge := none } : Tracker).lastEdge = none := by decide +kernel

theorem witness_SeekingFindsTheGapAndAGapErrorReturns :
    let s : State := { synced with control := { synced.control with timebase := 5008000 } }
    seeking.running = true ∧ seeking.tracker.sync = .seeking ∧ seeking.tracker.lastEdge = some ⟨200, none⟩ ∧
      800 / 4 ≤ (seeking.control.timebase - 200).toNat ∧ s.running = true ∧ s.tracker.sync = .fullSync ∧
      s.tracker.lastEdge = some ⟨5000000, some 1920⟩ ∧ s.tracker.toothIndex = some 20 ∧
      2662 / 4 ≤ (s.control.timebase - 5000000).toNat ∧
      gapTest .w60m2 (s.control.timebase - 5000000).toNat s.tracker.history.current ≠
        decide (20 = pitches .w60m2 - missing .w60m2 - 1) := by decide +kernel

theorem witness_PredictionAndDelaysRoundAsStated : 5760 < 5761 ∧ 4 ≤ 4 ∧ 1 ≤ 1 ∧ 480 ≤ (missing .w36m2 + 1) * ticksPerTooth .w36m2 ∧
    7999999 < 8000000 ∧ 11519 ≤ 11519 := by decide

/-- FULL_SYNC at the last tooth of revolution B, 7990 tu later: the edge after the gap. -/
def atGap : State := { synced with
  tracker := { synced.tracker with
    toothIndex := some 57, revolution := some .b, lastEdge := some ⟨5000000, some 11232⟩ }
  control := { synced.control with timebase := 5007990 } }

theorem test_origin_after_the_gap :
    next (exec .crankActiveEdge atGap) (fun t => t.tracker.toothIndex == some 0 && t.tracker.revolution == some .a &&
      t.tracker.cycle == 43 && t.store.age == 1 && t.tracker.lastEdge == some ⟨5007990, some 0⟩) = true := by decide +kernel

theorem witness_counted_edge_at_the_gap : atGap.running = true ∧ atGap.tracker.sync = .fullSync ∧
    atGap.tracker.lastEdge = some ⟨5000000, some 11232⟩ ∧ atGap.tracker.toothIndex = some 57 ∧
    atGap.tracker.revolution = some .b ∧ 2662 / 4 ≤ (atGap.control.timebase - 5000000).toNat ∧
    gapTest .w60m2 (atGap.control.timebase - 5000000).toNat atGap.tracker.history.current =
      decide (57 = pitches .w60m2 - missing .w60m2 - 1) := by decide +kernel

theorem witness_CountedEdgeAdvancesTheTooth : synced.running = true ∧ synced.tracker.sync = .fullSync ∧
    synced.tracker.lastEdge = some ⟨5000000, some 1920⟩ ∧ synced.tracker.toothIndex = some 20 ∧
    synced.tracker.revolution = some .a ∧ 2662 / 4 ≤ (synced.control.timebase - 5000000).toNat ∧
    gapTest .w60m2 (synced.control.timebase - 5000000).toNat synced.tracker.history.current = false ∧
    decide (20 = pitches .w60m2 - missing .w60m2 - 1) = false := by decide +kernel

/-- CAM_ONLY with a background seek under way, 8000 tu after its last edge. -/
def camOnlySeeking : State := { camOnly with
  tracker := { camOnly.tracker with seek := { lastEdge := some 20382000, history := ⟨none, some 2700, some 2700⟩ } } }

theorem witness_BackgroundSeekReturnsToFullSync : camOnly.running = true ∧ camOnly.tracker.sync = .camOnly ∧
    camOnly.tracker.seek.lastEdge = none ∧ camOnlySeeking.tracker.seek.lastEdge = some 20382000 ∧
    2700 / 4 ≤ (camOnlySeeking.control.timebase - 20382000).toNat ∧
    gapTest .w60m2 (camOnlySeeking.control.timebase - 20382000).toNat camOnlySeeking.tracker.seek.history.current = true ∧
    gapTest .w60m2 2700 camOnlySeeking.tracker.seek.history.current = false ∧
    camOnlySeeking.tracker.camHistory.lastEdge = some 20000000 ∧
    camOnlySeeking.tracker.camHistory.period = some 400120 := by decide +kernel

/-- The same with the window close at 5601, in the gap before revolution B. -/
def closingInGap : State := { camOnlySeeking with
  tracker := { camOnlySeeking.tracker with cam := { camOnlySeeking.tracker.cam with gamma := 5400, halfWidth := 200 } } }

theorem test_seek_sets_the_flag_and_a_close_in_the_gap_clears_it :
    next (exec .crankActiveEdge camOnlySeeking) (fun t => t.tracker.sync == .fullSync && t.tracker.camHistory.windowFlag) =
      true ∧
    next (exec .crankActiveEdge closingInGap) (fun t => t.tracker.sync == .fullSync &&
      t.tracker.revolution == some .b && !t.tracker.camHistory.windowFlag && t.tracker.camHistory.missingRun == 0) = true := by
  decide +kernel

theorem witness_ReverseEdgeEmptiesTheQueue :
    let s : State := { drivenPost 100700 .hold [main] with
      tracker := { synced.tracker with pulseStart := some 100340 } }
    s.running = true ∧ s.tracker.pulseStart = some 100340 ∧
      s.tracker.wheel.dirThreshold ≤ (s.control.timebase - 100340).toNat ∧ s.tracker.sync ≠ .stopped := by decide +kernel

theorem witness_StallsStopOrGoCamOnly :
    let s : State := { synced with control := { synced.control with timebase := 12900000 } }
    s.running = true ∧ s.tracker.crankTimer = some 5000000 ∧
      s.tracker.wheel.stallTime ≤ (s.control.timebase - 5000000).toNat ∧ s.tracker.camTimer = some 4900000 ∧
      s.tracker.cam.stallTime ≤ (s.control.timebase - 4900000).toNat := by decide +kernel

theorem witness_CamEdgePlacesThePhase : synced.running = true ∧ synced.tracker.sync ≠ .camOnly ∧
    synced.tracker.lastEdge = some ⟨5000000, some 1920⟩ ∧ synced.tracker.history.predicted = some 2662 := by decide +kernel

theorem witness_CamEdgeInCamOnlyIsAnOrigin : camOnly.running = true ∧ camOnly.tracker.sync = .camOnly ∧
    camOnly.tracker.camHistory.lastEdge = some 20000000 ∧ camOnly.tracker.camHistory.period = some 400120 ∧
    400120 / 2 ≤ (camOnly.control.timebase - 20000000).toNat ∧ camOnly.table.ring.length ≤ 8 ∧
    ((20200059 : Time) - 20000000).toNat < 400120 / 2 := by decide +kernel

/-! ### Modes and invariants -/

theorem drives_follow (s : State) (h : s.queue.requests = [])
    (hd : ∀ x, (s.drive x).boostOut = false ∧ (s.drive x).holdOut = false ∧ (s.drive x).pulse = none)
    (hs : ∀ c, s.sel.get c = false) : OutputsFollow s := by
  constructor <;> intros <;> simp [drivers, driversOf, drives, cylDriving, h, hd, hs]

theorem idle_outputs_follow : OutputsFollow idle :=
  drives_follow idle rfl (by intro x; cases x <;> exact ⟨rfl, rfl, rfl⟩) (by intro c; cases c <;> rfl)

/-- STOPPED and DISARMED while the POST still holds. -/
def parked : State := { drivenPost 100700 .hold [] with fueling := idle.fueling, tracker := idle.tracker }

theorem parked_outputs_follow : OutputsFollow parked := by
  refine ⟨?_, ?_, ?_, ?_, ?_, ?_, fun h => nomatch h⟩
  all_goals intro x; cases x <;> decide +kernel

theorem test_standby_aborts_the_pulse :
    next (exec (.enterStandby 1 []) parked) (fun t => t.control.mode == .standby && t.link.reply.payload == [0] &&
      t.queue.requests == [] && !t.driveA.holdOut && !t.sel.c3 && (t.cyl .c3).lastEnd == some 100700 && t.notices.dropCounts[8] == 1 &&
      t.notices.kindCounts[10] == 1 && t.driveA.charge == parked.driveA.charge) = true := by decide +kernel
theorem test_soft_reset_counts_its_abort_without_a_notice :
    next (exec (.softReset 1 []) parked) (fun t => t.queue.requests == [] && t.notices.dropCounts[8] == 1 &&
      t.notices.kindCounts[10] == 0 && (t.cyl .c3).lastEnd == some 100700 && t.driveA.charge == .ready) = true := by
  decide +kernel

theorem witness_EnterStandbyEndsPulsesAndLeavesRun : parked.running = true ∧ OutputsFollow parked ∧
    parked.fueling.state = .disarmed ∧ parked.tracker.sync = .stopped ∧
    allCylinders.any (fun c => (parked.cyl c).flushPending) = false ∧ synced.fueling.state ≠ .disarmed :=
  ⟨rfl, parked_outputs_follow, rfl, rfl, by decide +kernel, by decide +kernel⟩

theorem witness_WakeSettingsAndSources : idle.running = true ∧ asleep.running = false ∧
    asleep.control.wakeEnables.crankEdge = true := ⟨rfl, rfl, rfl⟩
theorem witness_ClockMonitorSwitchesTheSource : idle.control.mode ≠ .standby ∧ idle.pins.resetLow = false ∧
    asleep.control.mode = .standby := by decide +kernel
theorem witness_PinResetAndWarmupEndStartTheRun : State.reset.control.mode = .warmup ∧ State.reset.pins.resetLow = false ∧
    State.reset.control.wakeSource.isSome = false ∧ (beginWarmup (some .crankEdge) asleep).control.mode = .warmup ∧
    (beginWarmup (some .crankEdge) asleep).control.wakeSource.isSome = true ∧
    State.reset.notices.queue.length ≤ 28 ∧ State.reset.notices.mask.getLsbD 17 = true := by decide +kernel
theorem witness_SoftResetTakesTheSoftValues : parked.running = true ∧ OutputsFollow parked :=
  ⟨rfl, parked_outputs_follow⟩

theorem idle_bounded : Bounded idle :=
  ⟨by decide, by decide, by decide, by decide, by decide, by decide, by decide, by intro c; cases c <;> decide⟩

/-- A MAIN that waits since 99 900, a POST armed for 100 000, and the expiry of its start timer. -/
def busy : State :=
  let s := normalAt 100000 [{ main with dueTime := some 99900, lateExpiry := some 101500 }, armedPost]
  { (s.setCyl .c2 { s.cyl .c2 with cyclePlanned := true }).setCyl .c3 { s.cyl .c3 with cyclePlanned := true } with
    pending := [.startTimerExpiry armedPost.id] }

theorem busy_outputs_follow : OutputsFollow busy := by
  refine ⟨?_, ?_, ?_, ?_, ?_, ?_, fun h => nomatch h⟩
  all_goals intro x; cases x <;> decide +kernel

theorem busy_timely : Timely busy := by
  refine ⟨?_, by decide +kernel, ?_, rfl, ?_, by decide +kernel, by decide +kernel, ?_, ?_, ?_, fun h => nomatch h⟩
  · intro h e; rcases e with rfl | rfl <;> exact ⟨fun p e => (nomatch e), fun p e => (nomatch e)⟩
  · intro c e; exact nomatch e
  · intro _ t e; exact nomatch e
  · intro _ r m e
    rcases List.mem_cons.1 m with rfl | m
    · exact nomatch e
    · rw [List.mem_singleton.1 m]; exact ⟨100000, rfl, fun _ => rfl⟩
  · intro _ r m e
    rcases List.mem_cons.1 m with rfl | m
    · exact ⟨99900, rfl, by decide +kernel, by decide +kernel⟩
    · rw [List.mem_singleton.1 m] at e; exact nomatch e
  · intro e; exact nomatch e

theorem plans_in_order_of_none (s : State) (ha : ∀ c, s.store.planA.plans.get c = [])
    (hb : ∀ c, s.store.planB.plans.get c = []) (hl : EntryInRange s.table.planLead s.store.limp) : PlansInOrder s :=
  ⟨fun c => by rw [ha]; exact ⟨List.Pairwise.nil, by simp⟩, fun c => by rw [hb]; exact ⟨List.Pairwise.nil, by simp⟩, hl⟩

theorem witness_EveryStepKeepsTheBounds : Bounded idle ∧ ∃ t, step idle = .next t :=
  ⟨idle_bounded, _, rfl⟩
theorem witness_EveryStepKeepsOutputsFollowing : OutputsFollow idle ∧ ∃ t, step idle = .next t :=
  ⟨idle_outputs_follow, _, rfl⟩
theorem witness_EveryStepKeepsTheFuelingStateDerived : Supervised idle ∧ ∃ t, step idle = .next t :=
  ⟨⟨rfl, rfl, rfl, rfl, rfl, by decide⟩, _, rfl⟩
theorem witness_PlansStayInOrder : PlansInOrder idle ∧ ∃ t, step idle = .next t :=
  ⟨plans_in_order_of_none idle (by intro c; cases c <;> rfl) (by intro c; cases c <;> rfl)
    (by unfold EntryInRange; decide +kernel), _, rfl⟩
theorem witness_EveryStepKeepsTheTimersTimely : OutputsFollow busy ∧ Timely busy ∧ ∃ t, step busy = .next t :=
  ⟨busy_outputs_follow, busy_timely, _, rfl⟩
theorem witness_EveryStepKeepsTheQueueOrder : Timely busy ∧ InQueueOrder busy ∧ ∃ t, step busy = .next t :=
  ⟨busy_timely, by unfold InQueueOrder; decide +kernel, _, rfl⟩
theorem witness_EveryStepKeepsRequestsApart : PlansInOrder busy ∧
    (∀ r ∈ busy.queue.requests, r.cycle ≠ busy.tracker.cycle + 1) ∧ NoTwins busy ∧ ∃ t, step busy = .next t :=
  ⟨plans_in_order_of_none busy (by intro c; cases c <;> rfl) (by intro c; cases c <;> rfl)
    (by unfold EntryInRange; decide +kernel),
    by decide +kernel, ⟨by decide +kernel, List.Pairwise.nil, by decide +kernel⟩, _, rfl⟩

end Sys2Proof.Tests
end

/-! PROOFS. The peak timeout (R135): the reports of a peak failure and of an end in the claims' terms (R53, R56, R58),
a bank's occupant as the first of its driving requests (R108), and the auction that finds nothing to do (R111, R121). -/

namespace Sys2Proof.Machine

open Sys2Proof.Safety

/-! ### The reports of a peak failure and of an end -/

/-- The mask threshold decides whether the failure masks the cylinder (R53). -/
theorem peakFailure_eq (c : Cylinder) (x : Bank) (s : State) :
    peakFailure c x s = (
      let n := min 15 ((s.cyl c).failures + 1)
      if (s.cyl c).masked = false ∧ n ≥ s.table.maskThreshold then
        raise .cylMasked (.cylinder c) (some x) (half n) (s.setCyl c { s.cyl c with failures := n, masked := true })
      else s.setCyl c { s.cyl c with failures := n }) :=
  if_congr (by simp [satInc]) rfl rfl

/-- With no flush pending, clearing the flag changes nothing: both outcomes record the end in the same way. -/
theorem reportEnd_eq (c : Cylinder) (t : Time) (d : Nat) (s : State) :
    reportEnd c t d s = (
      let u := s.setCyl c { s.cyl c with lastEnd := some t, flushPending := false }
      if (s.cyl c).flushPending then raise .flushDone (.cylinder c) none (half d) u else u) := by
  cases hp : (s.cyl c).flushPending with
  | true => simp [reportEnd, hp]
  | false => simp [reportEnd, hp]

@[simp] theorem peakFailure_queue (c : Cylinder) (x : Bank) (s : State) : (peakFailure c x s).queue = s.queue := by
  rw [peakFailure_eq]; dsimp only; split <;> rfl

@[simp] theorem peakFailure_drive (c : Cylinder) (x y : Bank) (s : State) : (peakFailure c x s).drive y = s.drive y := by
  rw [peakFailure_eq]; dsimp only; split <;> simp

@[simp] theorem reportEnd_queue (c : Cylinder) (t : Time) (d : Nat) (s : State) : (reportEnd c t d s).queue = s.queue := by
  rw [reportEnd_eq]; dsimp only; split <;> rfl

@[simp] theorem reportEnd_drive (c : Cylinder) (t : Time) (d : Nat) (s : State) (y : Bank) :
    (reportEnd c t d s).drive y = s.drive y := by
  rw [reportEnd_eq]; dsimp only; split <;> simp

/-! ### What drops and outputs leave of a bank -/

@[simp] theorem dropRequest_drive (q : DropReason) (r : Request) (s : State) (y : Bank) :
    (dropRequest q r s).drive y = s.drive y := by
  simp [dropRequest, removeRequest]

@[simp] theorem outputsOff_queue (x : Bank) (c : Cylinder) (s : State) : (outputsOff x c s).queue = s.queue := by
  simp [outputsOff]

@[simp] theorem startRecharge_queue (x : Bank) (t : Time) (s : State) : (startRecharge x t s).queue = s.queue := by
  simp [startRecharge]

@[simp] theorem startRecharge_charge (x : Bank) (t : Time) (s : State) :
    ((startRecharge x t s).drive x).charge = .charging (some (later t s.queue.limits.recharge)) := by
  simp [startRecharge]

/-- Steps 1 and 2 of R135 at once: the outputs go off and the recharge starts. -/
theorem startRecharge_outputsOff (x : Bank) (c : Cylinder) (t : Time) (s : State) :
    startRecharge x t (outputsOff x c s) =
      State.setDrive { s with sel := s.sel.set c false } x { s.drive x with
        boostOut := false, holdOut := false, pulse := none
        charge := .charging (some (t + BitVec.ofNat 32 s.queue.limits.recharge)) } := by
  cases x <;> rfl

/-! ### The driving requests of a bank -/

/-- The occupant is the first driving request of its bank (R108). -/
theorem occupant_eq_head?_drivers (x : Bank) (s : State) : occupant x s = (drivers x s).head? :=
  List.head?_filter.symm

/-- A drop takes its request out of the driving requests of a bank. -/
theorem drivers_dropRequest (x : Bank) (q : DropReason) (r : Request) (s : State) :
    drivers x (dropRequest q r s) = (drivers x s).erase r :=
  List.erase_filter.symm

/-! ### An auction with nothing to judge and nothing to grant -/

theorem judgeTruncation_of_no_occupant {x : Bank} {s : State} (ho : occupant x s = none) : judgeTruncation x s = s := by
  rw [judgeTruncation, ho]

@[simp] theorem chooseAmong_nil (t : Tree) : chooseAmong t [] = none := rfl

theorem candidates_of_not_ready {x : Bank} {s : State} (hc : (s.drive x).charge ≠ .ready) : candidates x s = [] := by
  simp [candidates, bankOpen, hc]

/-- On a bank without an occupant, an auction before the recharge is complete changes nothing (R111, R121). -/
theorem auction_of_recharging {x : Bank} {s : State} (ho : occupant x s = none) (hc : (s.drive x).charge ≠ .ready) :
    auction x s = s := by
  unfold auction
  split
  · rfl
  · simp only [judgeTruncation_of_no_occupant ho, candidates_of_not_ready hc, chooseAmong_nil]

/-! ### The peak timeout -/

theorem exec_peakTimeoutAbort (x : Bank) (s : State) :
    exec (.peakTimeoutAbort x) s = .next (if s.running then peakExpires x s else s) := rfl

/-- A peak timer that has run out under an occupant in BOOST times its pulse out. -/
theorem peakExpires_of_boost {x : Bank} {o : Request} {p : PulseRecord} {t : Time} {s : State}
    (ho : occupant x s = some o) (hb : o.state = .boost) (hp : (s.drive x).pulse = some p) (he : p.peakExpiry = some t)
    (ht : reached t s.now = true) : peakExpires x s = peakTimesOut x o t s := by
  simp [peakExpires, ho, hp, he, hb, ht]

/-- The auction at the end of a peak timeout grants nothing: the only driving request has left, and the bank
recharges (R135, R139). -/
theorem peakTimesOut_eq_of_drivers {x : Bank} {o : Request} {s : State} (t : Time) (hd : drivers x s = [o]) :
    peakTimesOut x o t s =
      dropRequest .aborted o (reportEnd o.cylinder t 2 (peakFailure o.cylinder x
        (raiseAt t .peakTimeout (.cylinder o.cylinder) (some x) (peakTimeoutDetail o.kind x)
          (startRecharge x t (outputsOff x o.cylinder s))))) := by
  refine auction_of_recharging ?no_occupant ?not_ready
  case no_occupant =>
    rw [occupant_eq_head?_drivers, drivers_dropRequest]
    have kept : ∀ u : State, u.queue = s.queue → drivers x u = [o] := fun u hu => by rw [drivers, hu]; exact hd
    rw [kept _ (by simp)]
    simp
  case not_ready => simp

/-- Settles O31: the reports are `peakFailure_eq` and `reportEnd_eq`, and the abort is the seven steps of R135 less
their auction, which `peakTimesOut_eq_of_drivers` shows to be idle. -/
theorem peakTimeoutAbortsInOrder : Obligations.PeakTimeoutAbortsInOrder := by
  refine ⟨?abort, fun c x t d s => ⟨peakFailure_eq c x s, reportEnd_eq c t d s⟩⟩
  case abort =>
    intro x o p t s hrun hd hb hp he ht
    have ho : occupant x s = some o := by rw [occupant_eq_head?_drivers, hd]; rfl
    have hreached : reached t s.now = true := decide_eq_true ht
    rw [exec_peakTimeoutAbort, if_pos hrun, peakExpires_of_boost ho hb hp he hreached, peakTimesOut_eq_of_drivers t hd,
      startRecharge_outputsOff]
    -- the bank's code in the detail of PEAK_TIMEOUT (R205)
    cases x <;> rfl

end Sys2Proof.Machine

/-! PROOFS. The stored plans (R62): the operations that leave every plan, the limp plan and the plan lead as they are,
the entry checks of R63 read as the order of a plan, and the commands that store a plan or move the plan lead. -/

namespace Sys2Proof.Machine

open Sys2Proof.Safety

/-! ### What leaves the plans alone -/

/-- `t` holds the plans of `s`: the plan lead, every plan of both plan banks and the limp plan. -/
structure SamePlans (s t : State) : Prop where
  planLead : t.table.planLead = s.table.planLead
  plansA : t.store.planA.plans = s.store.planA.plans
  plansB : t.store.planB.plans = s.store.planB.plans
  limp : t.store.limp = s.store.limp

theorem SamePlans.plansInOrder {s t : State} (h : SamePlans s t) (hs : PlansInOrder s) : PlansInOrder t where
  bankA c := by rw [h.planLead, h.plansA]; exact hs.bankA c
  bankB c := by rw [h.planLead, h.plansB]; exact hs.bankB c
  limp := by rw [h.planLead, h.limp]; exact hs.limp

/-- Where the plan lead and the whole store stand, the plans do. -/
theorem SamePlans.of_store {s t : State} (hl : t.table.planLead = s.table.planLead) (hs : t.store = s.store) :
    SamePlans s t :=
  ⟨hl, by rw [hs], by rw [hs], by rw [hs]⟩

theorem SamePlans.refl (s : State) : SamePlans s s := .of_store rfl rfl

theorem SamePlans.trans {s t u : State} (h : SamePlans s t) (g : SamePlans t u) : SamePlans s u :=
  ⟨g.planLead.trans h.planLead, g.plansA.trans h.plansA, g.plansB.trans h.plansB, g.limp.trans h.limp⟩

theorem SamePlans.ite {s t u : State} {c : Prop} [Decidable c] (h : SamePlans s t) (g : SamePlans s u) :
    SamePlans s (if c then t else u) := by split <;> assumption

theorem Quiet.samePlans {s t : State} (h : Quiet s t) : SamePlans s t := .of_store h.planLead h.store

theorem FuelOnly.samePlans {s t : State} (h : FuelOnly s t) : SamePlans s t := .of_store h.planLead h.store

theorem setLink_samePlans (s : State) (l : FramePort) : SamePlans s (s.setLink l) := .of_store rfl rfl

theorem setTracker_samePlans (s : State) (t : Tracker) : SamePlans s (s.setTracker t) := .of_store rfl rfl

theorem setControl_samePlans (s : State) (c : Control) : SamePlans s (s.setControl c) := .of_store rfl rfl

theorem setNotices_samePlans (s : State) (u : NoticeUnit) : SamePlans s (s.setNotices u) := .of_store rfl rfl

theorem setShort_samePlans (s : State) (x : Bank) (b : Bool) : SamePlans s (s.setShort x b) :=
  .of_store (by simp) (by simp)

/-! ### Events of requests, pulses and drive banks -/

theorem lateness_quiet (id : RequestId) (s : State) : Quiet s (lateness id s) := by
  unfold lateness
  split
  · exact Quiet.refl s
  · split
    · exact (dropRequest_quiet _ _ s).ite (Quiet.refl s)
    · exact Quiet.refl s

theorem recharged_quiet (x : Bank) (s : State) : Quiet s (recharged x s) := by
  unfold recharged
  split
  · exact ((setDrive_quiet s x _).trans (auction_quiet x _)).ite (Quiet.refl s)
  · exact Quiet.refl s

theorem lastEndExpires_quiet (c : Cylinder) (s : State) : Quiet s (lastEndExpires c s) := by
  unfold lastEndExpires
  split
  · exact Quiet.refl s
  · exact (setCyl_quiet s c _).ite (Quiet.refl s)

theorem startTimerExpires_quiet (id : RequestId) (s : State) : Quiet s (startTimerExpires id s) := by
  unfold startTimerExpires
  split
  · exact Quiet.refl s
  · split
    · exact (becomeDue_quiet _ _ _ s).ite (Quiet.refl s)
    · exact Quiet.refl s

theorem peakRises_quiet (x : Bank) (s : State) : Quiet s (peakRises x s) := by
  unfold peakRises
  split
  · exact Quiet.refl s
  · exact Quiet.ite
      ((((setDrive_quiet s x _).trans (setRequests_quiet _ _)).trans (startRecharge_quiet x _ _)).trans
        (setCyl_quiet _ _ _))
      (Quiet.refl s)

theorem peakTimesOut_quiet (x : Bank) (o : Request) (t : Time) (s : State) : Quiet s (peakTimesOut x o t s) :=
  ((((((outputsOff_quiet x _ s).trans (startRecharge_quiet x t _)).trans (raiseAt_quiet _ _ _ _ _ _)).trans
    (peakFailure_quiet _ x _)).trans (reportEnd_quiet _ t _ _)).trans (dropRequest_quiet _ o _)).trans
    (auction_quiet x _)

theorem peakExpires_quiet (x : Bank) (s : State) : Quiet s (peakExpires x s) := by
  unfold peakExpires
  split
  · split
    · exact (peakTimesOut_quiet x _ _ s).ite (Quiet.refl s)
    · exact Quiet.refl s
  · exact Quiet.refl s

theorem pulseEnds_quiet (x : Bank) (o : Request) (t : Time) (s : State) : Quiet s (pulseEnds x o t s) :=
  ((((outputsOff_quiet x _ s).trans (rechargeIfBoost_quiet x o t _)).trans (reportEnd_quiet _ t _ _)).trans
    (setRequests_quiet _ _)).trans (auction_quiet x _)

theorem durationEnds_quiet (x : Bank) (s : State) : Quiet s (durationEnds x s) := by
  unfold durationEnds
  split
  · exact (pulseEnds_quiet x _ _ s).ite (Quiet.refl s)
  · exact Quiet.refl s

theorem shortAborts_quiet (x : Bank) (occ : Option Request) (s : State) : Quiet s (shortAborts x occ s) :=
  match occ with
  | none => Quiet.refl s
  | some o => (abortBegin_quiet x o s).trans (dropRequest_quiet _ o _)

theorem shortAsserted_quiet (x : Bank) (s : State) : Quiet s (shortAsserted x s) :=
  (Quiet.refl s).ite
    (((setDrive_quiet s x _).trans (shortAborts_quiet x _ _)).trans (raise_quiet _ _ _ _ _))

/-! ### The swap and the origin event -/

/-- A swap exchanges which bank is active and sets a tag; it moves no plan (R70). -/
theorem swapTakesEffect_samePlans (g : Byte) (b : Bool) (s : State) : SamePlans s (swapTakesEffect g b s) := by
  have exchange : SamePlans s (s.setStore
      { (s.store.setBank (otherBank s.store.active) { s.store.bank (otherBank s.store.active) with tag := g }) with
        active := otherBank s.store.active, age := 0 }) := by
    cases otherBank s.store.active <;> exact ⟨rfl, rfl, rfl, rfl⟩
  have settle (u : State) : SamePlans u (u.setStore { u.store with pendingSwap := none }) := ⟨rfl, rfl, rfl, rfl⟩
  exact ((exchange.trans (handAge_fuelOnly _).samePlans).trans (settle _)).trans (raise_quiet _ _ _ _ _).samePlans

theorem storeOrigin_samePlans (s : State) : SamePlans s (storeOrigin s) := by
  have aged : SamePlans s (s.setStore { s.store with age := satInc 255 s.store.age }) := ⟨rfl, rfl, rfl, rfl⟩
  unfold storeOrigin
  split
  · exact swapTakesEffect_samePlans _ _ s
  · exact aged.trans (handAge_fuelOnly _).samePlans

theorem originEvent_samePlans (s : State) : SamePlans s (originEvent s) := by
  have counted : SamePlans s (clearPlanned { s with tracker := { s.tracker with cycle := s.tracker.cycle + 1 } }) :=
    .of_store rfl rfl
  exact counted.trans (storeOrigin_samePlans _)

/-! ### The tracker's edges and stalls -/

theorem loseSync_samePlans (n : Nat) (s : State) : SamePlans s (loseSync n s) :=
  ((dropNonDriving_quiet _ s).trans (raise_quiet _ _ _ _ _)).samePlans

theorem enterStopped_samePlans (s : State) : SamePlans s (enterStopped s) :=
  ((setTracker_samePlans s _).trans (handSpeed_fuelOnly _).samePlans).trans (handSync_fuelOnly _).samePlans

theorem gainSync_samePlans (l : SyncState) (s : State) : SamePlans s (gainSync l s) :=
  (raise_quiet _ _ _ _ s).samePlans.trans (handSync_fuelOnly _).samePlans

theorem noteCamMissing_samePlans (s : State) : SamePlans s (noteCamMissing s) :=
  (raise_quiet _ _ _ _ s).samePlans.trans (handSync_fuelOnly _).samePlans

theorem publishTooth_samePlans (now : Time) (α i n : Nat) (s : State) : SamePlans s (publishTooth now α i n s) :=
  ((handSpeed_fuelOnly s).samePlans.trans ((originEvent_samePlans _).ite (SamePlans.refl _))).trans
    (toothEvent_quiet _ _).samePlans

theorem publishEdge_samePlans (now : Time) (q α i n : Nat) (s : State) : SamePlans s (publishEdge now q α i n s) := by
  have publish (u : State) : SamePlans u (publishTooth now α i n u) := publishTooth_samePlans now α i n u
  have closed : SamePlans s (s.setTracker s.tracker.closeWindow) := setTracker_samePlans s _
  exact ((closed.trans (publish _)).ite
    (((closed.trans (noteCamMissing_samePlans _)).trans (publish _)).ite
      ((closed.trans (publish _)).trans (noteCamMissing_samePlans _)))).ite (publish s)

theorem seekingEdge_samePlans (now : Time) (s : State) : SamePlans s (seekingEdge now s) := by
  unfold seekingEdge
  dsimp only
  split
  · exact setTracker_samePlans s _
  · exact (((setTracker_samePlans s _).trans (handSpeed_fuelOnly _).samePlans).trans
      (handSync_fuelOnly _).samePlans).ite ((setTracker_samePlans s _).trans (handSpeed_fuelOnly _).samePlans)

theorem gapErrorAt_samePlans (now : Time) (s : State) : SamePlans s (gapErrorAt now s) := by
  have counted (u : State) : SamePlans u (countGapError u) := .of_store rfl rfl
  exact (((setTracker_samePlans s _).trans (counted _)).trans
    ((SamePlans.refl _).ite (loseSync_samePlans 0 _))).trans (handSync_fuelOnly _).samePlans

theorem countedEdge_samePlans (now : Time) (s : State) : SamePlans s (countedEdge now s) := by
  unfold countedEdge
  exact SamePlans.ite
    (SamePlans.ite ((setTracker_samePlans s _).trans (handSpeed_fuelOnly _).samePlans)
      ((setTracker_samePlans s _).trans (publishEdge_samePlans _ _ _ _ _ _)))
    (gapErrorAt_samePlans now s)

theorem seekFound_samePlans (now : Time) (raw : Nat) (s : State) : SamePlans s (seekFound now raw s) :=
  ((((setTracker_samePlans s _).trans (dropNonDriving_quiet _ _).samePlans).trans
    (raise_quiet _ _ _ _ _).samePlans).trans (handSync_fuelOnly _).samePlans).trans (publishEdge_samePlans _ _ _ _ _ _)

theorem backgroundEdge_samePlans (now : Time) (s : State) : SamePlans s (backgroundEdge now s) := by
  unfold backgroundEdge
  dsimp only
  split
  · exact setTracker_samePlans s _
  · exact (seekFound_samePlans now _ s).ite (setTracker_samePlans s _)

theorem acceptedEdge_samePlans (now : Time) (s : State) : SamePlans s (acceptedEdge now s) := by
  unfold acceptedEdge
  cases s.tracker.sync with
  | stopped => exact (setTracker_samePlans s _).trans (handSync_fuelOnly _).samePlans
  | seeking => exact seekingEdge_samePlans now s
  | crankSync | fullSync | phaseHeld => exact countedEdge_samePlans now s
  | camOnly => exact backgroundEdge_samePlans now s

theorem activeEdge_samePlans (now : Time) (s : State) : SamePlans s (activeEdge now s) :=
  ((setTracker_samePlans s _).trans (acceptedEdge_samePlans now _)).ite (.of_store rfl rfl)

theorem trailingEdge_samePlans (now : Time) (s : State) : SamePlans s (trailingEdge now s) := by
  have reverse (u : State) : SamePlans u (reverseEdge now u) :=
    (((reverseOrder_quiet u).samePlans.trans (setTracker_samePlans _ _)).trans (raise_quiet _ _ _ _ _).samePlans).trans
      (handSync_fuelOnly _).samePlans
  unfold trailingEdge
  split
  · exact SamePlans.refl s
  · exact SamePlans.ite ((setTracker_samePlans s _).trans (reverse _)) (setTracker_samePlans s _)

theorem resolvePhase_samePlans (θ : Nat) (s : State) : SamePlans s (resolvePhase θ s) :=
  SamePlans.ite ((setTracker_samePlans s _).trans (gainSync_samePlans _ _)) (.of_store rfl rfl)

theorem confirmCam_samePlans (s : State) : SamePlans s (confirmCam s) :=
  SamePlans.ite ((setTracker_samePlans s _).trans (gainSync_samePlans _ _)) (setTracker_samePlans s _)

theorem flipPhase_samePlans (s : State) : SamePlans s (flipPhase s) :=
  ((setTracker_samePlans s _).trans (dropNonDriving_quiet _ _).samePlans).trans (raise_quiet _ _ _ _ _).samePlans

theorem conflictCam_samePlans (s : State) : SamePlans s (conflictCam s) := by
  have counted : SamePlans s (countCamConflict s) := .of_store rfl rfl
  exact counted.trans (SamePlans.ite ((flipPhase_samePlans _).trans (confirmCam_samePlans _))
    (setTracker_samePlans _ _))

theorem classifyCam_samePlans (θ : Nat) (s : State) : SamePlans s (classifyCam θ s) :=
  (confirmCam_samePlans s).ite ((conflictCam_samePlans s).ite (.of_store rfl rfl))

theorem camOnlyEdge_samePlans (now : Time) (s : State) : SamePlans s (camOnlyEdge now s) := by
  have accepted (c : Nat) : SamePlans s (camOnlyAccepted now c s) :=
    (((setTracker_samePlans s _).trans (handSpeed_fuelOnly _).samePlans).trans (originEvent_samePlans _)).trans
      (camEvent_quiet now c _).samePlans
  unfold camOnlyEdge
  dsimp only
  split
  · exact SamePlans.ite (.of_store rfl rfl) (accepted _)
  · exact accepted _

theorem placeCam_samePlans {classify : Nat → State → State} (h : ∀ θ u, SamePlans u (classify θ u)) (now : Time)
    (s : State) : SamePlans s (placeCam now classify s) := by
  unfold placeCam
  split
  · exact h _ s
  · exact SamePlans.refl s

theorem camEdgeAt_samePlans (now : Time) (s : State) : SamePlans s (camEdgeAt now s) := by
  have updated : SamePlans s (s.setTracker (s.tracker.camUpdate now)) := setTracker_samePlans s _
  unfold camEdgeAt
  cases s.tracker.sync with
  | camOnly => exact camOnlyEdge_samePlans now s
  | stopped | seeking => exact updated
  | crankSync => exact updated.trans (placeCam_samePlans resolvePhase_samePlans now _)
  | fullSync | phaseHeld => exact updated.trans (placeCam_samePlans classifyCam_samePlans now _)

theorem stallInSync_samePlans (now : Time) (s : State) : SamePlans s (stallInSync now s) := by
  unfold stallInSync
  split
  · exact ((((setTracker_samePlans s _).trans (dropNonDriving_quiet _ _).samePlans).trans
      (raise_quiet _ _ _ _ _).samePlans).trans (handSpeed_fuelOnly _).samePlans).trans (handSync_fuelOnly _).samePlans
  · exact (loseSync_samePlans 1 s).trans (enterStopped_samePlans _)

theorem crankStalls_samePlans (now : Time) (s : State) : SamePlans s (crankStalls now s) := by
  unfold crankStalls
  cases s.tracker.sync with
  | seeking | crankSync => exact enterStopped_samePlans s
  | fullSync | phaseHeld => exact stallInSync_samePlans now s
  | camOnly | stopped => exact setTracker_samePlans s _

theorem camStalls_samePlans (s : State) : SamePlans s (camStalls s) :=
  ((loseSync_samePlans 2 s).trans (enterStopped_samePlans _)).ite (setTracker_samePlans s _)

/-! ### Modes, the clock and the link -/

theorem beginWarmup_samePlans (w : Option WakeSource) (s : State) : SamePlans s (beginWarmup w s) := .of_store rfl rfl

theorem wakeBy_samePlans (b : Bool) (w : WakeSource) (s : State) : SamePlans s (wakeBy b w s) :=
  (beginWarmup_samePlans _ s).ite (SamePlans.refl s)

theorem endWarmup_samePlans (s : State) : SamePlans s (endWarmup s) := by
  have judged (u : State) : SamePlans u (judgeClock u) := .of_store rfl rfl
  have woken : SamePlans s (if s.control.wakeSource.isSome then wakeValues s else s) :=
    SamePlans.ite (.of_store rfl rfl) (SamePlans.refl s)
  have noted (w : Option WakeSource) (u : State) : SamePlans u (noteWake w u) :=
    match w with
    | none => SamePlans.refl u
    | some _ => (raise_quiet _ _ _ _ u).samePlans
  have noReference (u : State) : SamePlans u (noteNoReference u) :=
    (raise_quiet _ _ _ _ u).samePlans.ite (SamePlans.refl u)
  exact (((((woken.trans (judged _)).trans (setControl_samePlans _ _)).trans (noted _ _)).trans (noReference _)).trans
    (judgeLock_quiet .a _).samePlans).trans (judgeLock_quiet .b _).samePlans

theorem countGood_samePlans (s : State) : SamePlans s (countGood s) :=
  SamePlans.trans (setControl_samePlans s _)
    (SamePlans.ite ((setControl_samePlans _ _).trans (handClock_fuelOnly _).samePlans) (SamePlans.refl _))

theorem countBad_samePlans (s : State) : SamePlans s (countBad s) :=
  SamePlans.trans (setControl_samePlans s _)
    (SamePlans.ite (((setControl_samePlans _ _).trans (raise_quiet _ _ _ _ _).samePlans).trans
      (handClock_fuelOnly _).samePlans) (SamePlans.refl _))

theorem fallJudged_samePlans (s : State) : SamePlans s (fallJudged s) := by
  have opened (t : Transaction) (m : Option (List Byte)) : SamePlans s (openTransaction t m s) := setLink_samePlans s _
  unfold fallJudged
  cases s.control.mode with
  | standby => exact (opened _ _).trans (wakeBy_samePlans _ _ _)
  | warmup => exact opened _ _
  | run => exact (opened _ _).ite (opened _ _)

theorem turnaroundExpires_samePlans (s : State) : SamePlans s (turnaroundExpires s) := by
  unfold turnaroundExpires
  split
  · exact (setLink_samePlans s _).ite (SamePlans.refl s)
  · exact SamePlans.refl s

/-! ### The part's own time -/

theorem enqueue_samePlans (xs : List Instr) (s : State) : SamePlans s (enqueue xs s) :=
  SamePlans.ite (.of_store rfl rfl) (.of_store rfl rfl)

theorem idle_samePlans (s : State) : SamePlans s (idle s) := by
  have ticked : SamePlans s (tick s) := setControl_samePlans s _
  unfold idle
  refine SamePlans.ite (SamePlans.refl s) ?_
  cases s.control.mode with
  | run => exact SamePlans.ite (ticked.trans (enqueue_samePlans _ _)) (enqueue_samePlans _ s)
  | warmup => exact SamePlans.ite (.of_store rfl rfl) (setControl_samePlans s _)
  | standby => exact SamePlans.ite (.of_store rfl rfl) (SamePlans.refl s)

/-! ### Commands that store no plan -/

@[simp] theorem answerOk_state (s : State) (p : List Byte) : (answerOk s p).state = s := rfl

/-- A command of a fixed payload length refuses every other length and changes nothing then (R171). -/
theorem withLength_samePlans {n : Nat} {p : List Byte} {s : State} {run : State → Answer}
    (h : SamePlans s (run s).state) : SamePlans s (withLength n p s run).state := by
  unfold withLength
  split
  · exact h
  · exact SamePlans.refl s

theorem SamePlans.answer_ite {s : State} {a b : Answer} {c : Prop} [Decidable c] (h : SamePlans s a.state)
    (g : SamePlans s b.state) : SamePlans s (if c then a else b).state := by split <;> assumption

theorem ownFuelCut_samePlans (p : List Byte) (s : State) : SamePlans s (ownFuelCut p s).state :=
  withLength_samePlans <| .answer_ite (SamePlans.refl s)
    ((setFueling_fuelOnly s _).trans (deriveFueling_fuelOnly _ _)).samePlans

theorem ownSetFueling_samePlans (p : List Byte) (s : State) : SamePlans s (ownSetFueling p s).state :=
  withLength_samePlans <| by
    dsimp only
    split
    · exact SamePlans.refl s
    · exact ((((setFueling_fuelOnly s _).trans (judgeSpeed_fuelOnly _)).trans (judgeExpired_fuelOnly _)).trans
        (deriveFueling_fuelOnly _ _)).samePlans

theorem ownReleaseBank_samePlans (p : List Byte) (s : State) : SamePlans s (ownReleaseBank p s).state :=
  withLength_samePlans <| by
    dsimp only
    split
    · exact SamePlans.refl s
    · exact .answer_ite (SamePlans.refl s)
        (.answer_ite (SamePlans.refl s) ((setDrive_quiet s _ _).trans (auction_quiet _ _)).samePlans)

theorem ownSetLimits_samePlans (p : List Byte) (s : State) : SamePlans s (ownSetLimits p s).state :=
  withLength_samePlans <| by
    dsimp only
    split
    · exact SamePlans.refl s
    · have stored : SamePlans s { s with queue := { s.queue with limits := limitsOf p } } := .of_store rfl rfl
      exact stored.trans (Quiet.foldl (fun u c => separationElapses_quiet c u) _ _).samePlans

theorem ownReadShadow_samePlans (p : List Byte) (s : State) : SamePlans s (ownReadShadow p s).state :=
  withLength_samePlans <| by
    split
    · exact SamePlans.refl s
    · split <;> exact SamePlans.refl s

theorem ownSwap_samePlans (p : List Byte) (s : State) : SamePlans s (ownSwap p s).state :=
  withLength_samePlans <| .answer_ite (SamePlans.refl s)
    (.answer_ite (swapTakesEffect_samePlans _ _ s) ⟨rfl, rfl, rfl, rfl⟩)

theorem ownCancelSwap_samePlans (p : List Byte) (s : State) : SamePlans s (ownCancelSwap p s).state :=
  withLength_samePlans <| by
    dsimp only
    split
    · exact SamePlans.refl s
    · exact ⟨rfl, rfl, rfl, rfl⟩

theorem ownReadPlan_samePlans (p : List Byte) (s : State) : SamePlans s (ownReadPlan p s).state :=
  withLength_samePlans <| .answer_ite (SamePlans.refl s) (by split <;> exact SamePlans.refl s)

theorem ownSetCylMode_samePlans (p : List Byte) (s : State) : SamePlans s (ownSetCylMode p s).state :=
  withLength_samePlans <| by
    dsimp only
    split
    · exact (setCyl_quiet s _ _).samePlans
    · exact SamePlans.refl s

theorem ownClearMask_samePlans (p : List Byte) (s : State) : SamePlans s (ownClearMask p s).state :=
  withLength_samePlans <| by
    dsimp only
    split
    · exact SamePlans.refl s
    · exact (setCyl_quiet s _ _).samePlans

theorem ownFlushCyl_samePlans (p : List Byte) (s : State) : SamePlans s (ownFlushCyl p s).state :=
  withLength_samePlans <| by
    dsimp only
    split
    · exact SamePlans.refl s
    · exact .answer_ite (SamePlans.refl s)
        (.answer_ite ((dropWhere_quiet _ _ s).trans (setCyl_quiet _ _ _)).samePlans (dropWhere_quiet _ _ s).samePlans)

theorem ownSetWheel_samePlans (p : List Byte) (s : State) : SamePlans s (ownSetWheel p s).state :=
  withLength_samePlans <| .answer_ite (SamePlans.refl s) <| by
    split
    · exact SamePlans.refl s
    · exact setTracker_samePlans s _

theorem ownSetCam_samePlans (p : List Byte) (s : State) : SamePlans s (ownSetCam p s).state :=
  withLength_samePlans <| .answer_ite (SamePlans.refl s) <| by
    split
    · exact SamePlans.refl s
    · exact setTracker_samePlans s _

theorem ownReadCounters_samePlans (p : List Byte) (s : State) : SamePlans s (ownReadCounters p s).state :=
  withLength_samePlans <| .answer_ite (SamePlans.refl s)
    (.answer_ite (setNotices_samePlans s _) (SamePlans.refl s))

theorem ownReadFault_samePlans (p : List Byte) (s : State) : SamePlans s (ownReadFault p s).state :=
  withLength_samePlans <| by split <;> exact SamePlans.refl s

theorem ownFetchNotices_samePlans (p : List Byte) (s : State) : SamePlans s (ownFetchNotices p s).state :=
  withLength_samePlans <| .answer_ite (SamePlans.refl s) (setNotices_samePlans s _)

theorem ownEnterStandby_samePlans (p : List Byte) (s : State) : SamePlans s (ownEnterStandby p s).state := by
  have quiet (u : State) : SamePlans u (quietLink u) := .of_store rfl rfl
  have ended : SamePlans s (quietLink (abortByStandby .b (abortByStandby .a s))) :=
    ((abortByStandby_quiet .a s).trans (abortByStandby_quiet .b _)).samePlans.trans (quiet _)
  exact withLength_samePlans <| .answer_ite (SamePlans.refl s)
    (.answer_ite (ended.trans (beginWarmup_samePlans _ _)) (ended.trans (setControl_samePlans _ _)))

theorem ownSetWake_samePlans (p : List Byte) (s : State) : SamePlans s (ownSetWake p s).state :=
  withLength_samePlans <| by
    dsimp only
    split
    · exact SamePlans.refl s
    · exact .answer_ite (SamePlans.refl s) (setControl_samePlans s _)

/-- A soft reset cancels a pending swap and clears the age; the plans stay (R61, R176). -/
theorem ownSoftReset_samePlans (p : List Byte) (s : State) : SamePlans s (ownSoftReset p s).state := by
  have reset (u : State) : SamePlans u (softValues u) := ⟨rfl, rfl, rfl, rfl⟩
  have aborted := ((abortBySoftReset_quiet .a s).trans (abortBySoftReset_quiet .b _)).samePlans
  exact withLength_samePlans ((aborted.trans (reset _)).trans
    (((raise_quiet _ _ _ _ _).trans (judgeLock_quiet .a _)).trans (judgeLock_quiet .b _)).samePlans)

/-- The commands that store a plan or move the plan lead: SET_RING, SET_LIMP, WRITE_PLAN and COPY_ACTIVE. -/
def storesPlans : Command → Bool
  | .setRing | .setLimp | .writePlan | .copyActive => true
  | _ => false

/-- Every other command leaves the plans alone. -/
theorem owner_samePlans {c : Command} (hc : storesPlans c = false) (p : List Byte) (s : State) :
    SamePlans s (owner c p s).state := by
  cases c with
  | setRing | setLimp | writePlan | copyActive => cases hc
  | nop | ident | readAngle | readStatus => exact withLength_samePlans (SamePlans.refl s)
  | setWheel => exact ownSetWheel_samePlans p s
  | setCam => exact ownSetCam_samePlans p s
  | setLimits => exact ownSetLimits_samePlans p s
  | setFueling => exact ownSetFueling_samePlans p s
  | swap => exact ownSwap_samePlans p s
  | cancelSwap => exact ownCancelSwap_samePlans p s
  | readPlan => exact ownReadPlan_samePlans p s
  | setCylMode => exact ownSetCylMode_samePlans p s
  | clearMask => exact ownClearMask_samePlans p s
  | flushCyl => exact ownFlushCyl_samePlans p s
  | arm | disarm =>
    exact withLength_samePlans ((setFueling_fuelOnly s _).trans (deriveFueling_fuelOnly _ _)).samePlans
  | fuelCut => exact ownFuelCut_samePlans p s
  | releaseBank => exact ownReleaseBank_samePlans p s
  | readShadow => exact ownReadShadow_samePlans p s
  | readMarks => exact withLength_samePlans (.of_store rfl rfl)
  | readCounters => exact ownReadCounters_samePlans p s
  | readFault => exact ownReadFault_samePlans p s
  | clearFault | setNoticeMask => exact withLength_samePlans (setNotices_samePlans s _)
  | fetchNotices => exact ownFetchNotices_samePlans p s
  | enterStandby => exact ownEnterStandby_samePlans p s
  | setWake => exact ownSetWake_samePlans p s
  | softReset => exact ownSoftReset_samePlans p s

/-! ### The entry checks (R63) -/

theorem startInRange_iff {lead : Nat} {start : Int} :
    startInRange lead start = true ↔ 480 - (lead : Int) ≤ start ∧ start ≤ 2880 := by
  simp [startInRange]

theorem kindCode_of_kindOfCode {n : Nat} {k : PulseKind} (h : kindOfCode n = some k) : kindCode k = n := by
  unfold kindOfCode at h
  split at h <;> cases h <;> rfl

theorem firstFailing_eq_none_iff {α : Type} {ok : α → Bool} {xs : List α} {i : Nat} :
    firstFailing ok i xs = none ↔ ∀ x ∈ xs, ok x = true := by
  induction xs generalizing i with
  | nil => simp [firstFailing]
  | cons x xs ih =>
    cases hx : ok x with
    | true => simp [firstFailing, hx, ih]
    | false => simp [firstFailing, hx]

theorem firstFailingPair_eq_none_iff {α : Type} {ok : α → α → Bool} {xs : List α} {i : Nat} :
    firstFailingPair ok i xs = none ↔ xs.IsChain (fun x y => ok x y = true) := by
  induction xs generalizing i with
  | nil => simp [firstFailingPair]
  | cons x xs ih =>
    cases xs with
    | nil => simp [firstFailingPair]
    | cons y rest =>
      cases hxy : ok x y with
      | true => simp [firstFailingPair, hxy, ih]
      | false => simp [firstFailingPair, hxy]

/-- A value that increases from each member to the next increases along the whole list. -/
theorem pairwise_lt_of_isChain {α β : Type} [Preorder β] {f : α → β} {xs : List α}
    (h : xs.IsChain (fun x y => f x < f y)) : xs.Pairwise (fun x y => f x < f y) :=
  List.pairwise_map.mp (List.isChain_iff_pairwise.mp ((List.isChain_map f).mpr h))

/-- Entries that pass their checks: every kind is known, the kinds and the starts increase, and every start and
duration is in range. -/
theorem checks_of_entryFailure {lead : Nat} {es : List RawEntry} (h : entryFailure lead es = none) :
    (∀ e ∈ es, (kindOfCode e.kind).isSome = true) ∧
      es.Pairwise (fun x y => x.kind < y.kind) ∧ es.Pairwise (fun x y => x.start < y.start) ∧
      (∀ e ∈ es, startInRange lead e.start = true) ∧ (∀ e ∈ es, e.duration ≤ 10000) := by
  unfold entryFailure at h
  -- each check that fails would have given its own answer
  iterate 5
    split at h
    · cases h
  rename_i _ hkind _ hkinds _ hstarts _ hrange _ hduration
  refine ⟨firstFailing_eq_none_iff.mp hkind, pairwise_lt_of_isChain ?_, pairwise_lt_of_isChain ?_,
    firstFailing_eq_none_iff.mp hrange, ?_⟩
  · simpa using firstFailingPair_eq_none_iff.mp hkinds
  · simpa using firstFailingPair_eq_none_iff.mp hstarts
  · simpa using firstFailing_eq_none_iff.mp hduration

/-- Entries that pass their checks make a plan in order (R62, R63). -/
theorem storedEntries_inOrder {lead : Nat} {es : List RawEntry} (h : entryFailure lead es = none) :
    PlanInOrder lead (storedEntries es) := by
  obtain ⟨-, hkinds, hstarts, hrange, hdurations⟩ := checks_of_entryFailure h
  refine ⟨List.pairwise_filterMap.mpr ?_, fun x hx => ?_⟩
  · refine (hkinds.and hstarts).imp fun {a b} ⟨hk, hs⟩ x hx y hy => ?_
    obtain ⟨k, hka, rfl⟩ := Option.map_eq_some_iff.mp hx
    obtain ⟨l, hlb, rfl⟩ := Option.map_eq_some_iff.mp hy
    refine ⟨?_, hs⟩
    simpa only [freshEntry, kindCode_of_kindOfCode hka, kindCode_of_kindOfCode hlb] using hk
  · obtain ⟨e, he, hmap⟩ := List.mem_filterMap.mp hx
    obtain ⟨k, -, rfl⟩ := Option.map_eq_some_iff.mp hmap
    obtain ⟨low, high⟩ := startInRange_iff.mp (hrange e he)
    exact ⟨low, high, hdurations e he⟩

/-! ### Plans in order -/

theorem planInOrder_nil (lead : Nat) : PlanInOrder lead [] := ⟨List.Pairwise.nil, by simp⟩

theorem entryInRange_freshEntry {lead : Nat} {e : PlanEntry} (h : EntryInRange lead e) :
    EntryInRange lead (freshEntry e.kind e.start e.duration) := by
  simpa only [EntryInRange, freshEntry] using h

/-- A copy of a plan, each entry with a fresh parity bit, is in order where the plan is (R66). -/
theorem planInOrder_fresh {lead : Nat} {es : List PlanEntry} (h : PlanInOrder lead es) :
    PlanInOrder lead (es.map (fun e => freshEntry e.kind e.start e.duration)) := by
  refine ⟨?_, List.forall_mem_map.mpr fun e he => entryInRange_freshEntry (h.2 e he)⟩
  simpa only [List.pairwise_map, freshEntry] using h.1

/-- The plan lead bounds the starts alone (R62). -/
theorem entryInRange_of_start {lead newLead : Nat} {e : PlanEntry} (h : EntryInRange lead e)
    (hs : 480 - (newLead : Int) ≤ e.start) : EntryInRange newLead e := ⟨hs, h.2⟩

/-- The plans of a staging bank after a write: the cylinder's plan is the new one, every other plan stands (R64). -/
theorem stage_plans (t : Store) (c d : Cylinder) (es : List PlanEntry) (x : Bank) :
    ((t.stage c es).bank x).plans.get d =
      if x = otherBank t.active ∧ d = c then es else (t.bank x).plans.get d := by
  obtain rfl | hd := eq_or_ne d c
  · cases x <;> cases ha : t.active <;> simp [Store.stage, Store.setBank, Store.bank, otherBank, ha]
  · cases x <;> cases ha : t.active <;>
      simp [Store.stage, Store.setBank, Store.bank, otherBank, ha, hd, Eight.get_set_other _ _ hd]

@[simp] theorem stage_limp (t : Store) (c : Cylinder) (es : List PlanEntry) : (t.stage c es).limp = t.limp := by
  unfold Store.stage
  cases otherBank t.active <;> rfl

/-- Both plan banks at once. -/
theorem plansInOrder_iff {s : State} :
    PlansInOrder s ↔ (∀ x c, PlanInOrder s.table.planLead ((s.store.bank x).plans.get c)) ∧
      EntryInRange s.table.planLead s.store.limp where
  mp h := ⟨fun x => match x with | .a => h.bankA | .b => h.bankB, h.limp⟩
  mpr h := ⟨h.1 .a, h.1 .b, h.2⟩

theorem setStore_stage_plansInOrder {s : State} {c : Cylinder} {es : List PlanEntry} (h : PlansInOrder s)
    (hes : PlanInOrder s.table.planLead es) : PlansInOrder (s.setStore (s.store.stage c es)) := by
  obtain ⟨hbanks, hlimp⟩ := plansInOrder_iff.mp h
  refine plansInOrder_iff.mpr ⟨fun x d => ?_, ?_⟩
  · simp only [State.setStore_table, State.setStore_store, stage_plans]
    split
    · exact hes
    · exact hbanks x d
  · simpa using hlimp

/-! ### The commands that store plans -/

theorem ownWritePlan_plansInOrder (p : List Byte) {s : State} (h : PlansInOrder s) :
    PlansInOrder (ownWritePlan p s).state := by
  unfold ownWritePlan
  split
  · exact h
  · split
    · exact h
    · exact h
    · rename_i hpass _
      refine setStore_stage_plansInOrder h (storedEntries_inOrder ?_)
      unfold planFailure at hpass
      split at hpass
      · exact hpass
      · cases hpass

theorem copyPlan_plansInOrder (c : Cylinder) {s : State} (h : PlansInOrder s) : PlansInOrder (copyPlan c s) := by
  unfold copyPlan
  dsimp only
  split
  · exact setStore_stage_plansInOrder h (planInOrder_fresh ((plansInOrder_iff.mp h).1 _ c))
  · exact (raise_quiet _ _ _ _ _).samePlans.plansInOrder (setStore_stage_plansInOrder h (planInOrder_nil _))

theorem ownCopyActive_plansInOrder (p : List Byte) {s : State} (h : PlansInOrder s) :
    PlansInOrder (ownCopyActive p s).state := by
  have copied (cs : List Cylinder) : PlansInOrder (cs.foldl (fun u c => copyPlan c u) s) :=
    List.foldlRecOn cs _ h (fun _ hu c _ => copyPlan_plansInOrder c hu)
  unfold ownCopyActive withLength
  split
  · dsimp only
    split
    · exact h
    · rw [answerOk_state]; exact copied allCylinders
  · exact h

theorem ownSetLimp_plansInOrder (p : List Byte) {s : State} (h : PlansInOrder s) :
    PlansInOrder (ownSetLimp p s).state := by
  unfold ownSetLimp
  split
  · exact h
  · rename_i hpass
    refine ⟨h.bankA, h.bankB, ?_⟩
    unfold limpFailure at hpass
    -- each check that fails would have given its own answer
    iterate 3
      split at hpass
      · cases hpass
    rename_i hstart hduration
    obtain ⟨low, high⟩ := startInRange_iff.mp (by simpa using hstart)
    exact ⟨low, high, Nat.le_of_not_lt hduration⟩

/-- The last ring check is that of the stored starts (R45). -/
theorem storedStartsFit_of_ringFailure {lead : Nat} {ring : List RingEntry} {t : Store}
    (h : ringFailure lead ring t = none) : storedStartsFit lead t = true := by
  unfold ringFailure at h
  iterate 5
    split at h
    · cases h
  rename_i hfit
  simpa using hfit

/-- Check 4 read out: every stored entry starts at or after 480 less the lead (R45). -/
theorem starts_of_storedStartsFit {lead : Nat} {t : Store} (h : storedStartsFit lead t = true) :
    (∀ x c, ∀ e ∈ (t.bank x).plans.get c, 480 - (lead : Int) ≤ e.start) ∧ 480 - (lead : Int) ≤ t.limp.start := by
  simp only [storedStartsFit, Bool.and_eq_true, List.all_eq_true, decide_eq_true_eq] at h
  obtain ⟨hplans, hlimp⟩ := h
  refine ⟨fun x c => ?_, hlimp⟩
  obtain ⟨ha, hb⟩ := hplans c (mem_allCylinders c)
  cases x with
  | a => exact ha
  | b => exact hb

theorem ownSetRing_plansInOrder (p : List Byte) {s : State} (h : PlansInOrder s) :
    PlansInOrder (ownSetRing p s).state := by
  unfold ownSetRing
  split
  · exact h
  · split
    · exact h
    · split
      · exact h
      · rename_i hpass
        obtain ⟨hbanks, hlimp⟩ := plansInOrder_iff.mp h
        obtain ⟨fits, fitsLimp⟩ := starts_of_storedStartsFit (storedStartsFit_of_ringFailure hpass)
        exact plansInOrder_iff.mpr ⟨fun x c => ⟨(hbanks x c).1, fun e he =>
          entryInRange_of_start ((hbanks x c).2 e he) (fits x c e he)⟩, entryInRange_of_start hlimp fitsLimp⟩

/-- Every command keeps the plans in order, in the state its owner leaves. -/
theorem owner_plansInOrder (c : Command) (p : List Byte) {s : State} (h : PlansInOrder s) :
    PlansInOrder (owner c p s).state := by
  cases hc : storesPlans c with
  | false => exact (owner_samePlans hc p s).plansInOrder h
  | true =>
    cases c with
    | setRing => exact ownSetRing_plansInOrder p h
    | setLimp => exact ownSetLimp_plansInOrder p h
    | writePlan => exact ownWritePlan_plansInOrder p h
    | copyActive => exact ownCopyActive_plansInOrder p h
    | _ => cases hc

theorem carryOut_plansInOrder (tag : Byte) (c : Command) (p : List Byte) {s : State} (h : PlansInOrder s) :
    PlansInOrder (carryOut tag p (owner c) s) := by
  unfold carryOut
  split
  · exact (setLink_samePlans _ _).plansInOrder (owner_plansInOrder c p h)
  · exact h

/-! ### The release of a frame -/

theorem settleFrame_plansInOrder (v : FrameVerdict) (n : Nat) {s : State} (h : PlansInOrder s) :
    PlansInOrder (settleFrame v n s) := by
  have answered (st : Status) (g : Byte) (p : List Byte) : SamePlans s (setReply st g p s) := setLink_samePlans s _
  cases v with
  | badLength => exact (answered _ _ _).plansInOrder h
  | badCrc => exact (answered _ _ _).plansInOrder h
  | unknownKind kind tag => exact ((answered _ _ _).trans (setLink_samePlans _ _)).plansInOrder h
  | good c tag payload => exact carryOut_plansInOrder tag c payload h

theorem released_plansInOrder (mosi : List Bool) {s : State} (h : PlansInOrder s) : PlansInOrder (released mosi s) := by
  have closed : SamePlans s (closeTransaction s) := setLink_samePlans s _
  have turned (u : State) : SamePlans u (startTurnaround u) := setLink_samePlans u _
  unfold released
  split
  · split
    · exact settleFrame_plansInOrder _ _ ((closed.trans (turned _)).plansInOrder h)
    · exact closed.plansInOrder h
  · exact ((closed.trans (turned _)).ite closed).plansInOrder h
  · exact closed.plansInOrder h
  · exact closed.plansInOrder h
  · exact ((turned s).ite (SamePlans.refl s)).plansInOrder h

/-! ### Reset and the step -/

theorem reset_plansInOrder : PlansInOrder State.reset := by
  refine plansInOrder_iff.mpr ⟨fun x c => ?_, ?_⟩
  · have empty : (State.reset.store.bank x).plans.get c = [] := by cases x <;> exact Eight.get_all [] c
    rw [empty]
    exact planInOrder_nil _
  · unfold EntryInRange
    decide

/-- Held in reset, the part holds the plans of the reset state (R61, R199). -/
theorem heldInReset_plansInOrder (s : State) : PlansInOrder (heldInReset s) := by
  have held : SamePlans State.reset (heldInReset s) := .of_store rfl rfl
  exact held.plansInOrder reset_plansInOrder

/-- A frame command is carried out by its owner, with its tag and payload (R168). -/
theorem exec_of_frame {i : Instr} {c : Command} {tag : Byte} {p : List Byte} (h : i.frame? = some (c, tag, p))
    (s : State) : exec i s = .next (carryOut tag p (owner c) s) := by
  cases i <;> cases h <;> rfl

theorem exec_event_plansInOrder {i : Instr} {s t : State} (hi : i.frame? = none) (h : PlansInOrder s)
    (he : exec i s = .next t) : PlansInOrder t := by
  -- an event that acts only under a condition, and leaves the plans alone
  have guarded {c : Prop} [Decidable c] {u : State} (hu : SamePlans s u) : PlansInOrder (if c then u else s) :=
    (hu.ite (SamePlans.refl s)).plansInOrder h
  cases i with
  | csNFall => cases he; exact ((SamePlans.refl s).ite (fallJudged_samePlans s)).plansInOrder h
  | csNRelease mosi => cases he; exact released_plansInOrder mosi h
  | turnaroundExpiry => cases he; exact guarded (turnaroundExpires_samePlans s)
  | resetNLow => cases he; exact heldInReset_plansInOrder s
  | resetNRise =>
    cases he
    have left : SamePlans (heldInReset s) (leaveReset s) := .of_store rfl rfl
    exact left.plansInOrder (heldInReset_plansInOrder s)
  | warmupEnd => cases he; exact guarded (endWarmup_samePlans s)
  | wakeLevelRise high =>
    cases he
    have level : SamePlans s { s with pins := { s.pins with wake := high } } := .of_store rfl rfl
    exact (level.trans (wakeBy_samePlans _ _ _)).plansInOrder h
  | refclkCycle ps => cases he; exact guarded ((countGood_samePlans s).ite (countBad_samePlans s))
  | refclkMissing => cases he; exact guarded (countBad_samePlans s)
  | crankActiveEdge => cases he; exact ((activeEdge_samePlans _ s).ite (wakeBy_samePlans _ _ s)).plansInOrder h
  | crankTrailingEdge => cases he; exact ((trailingEdge_samePlans _ s).ite (wakeBy_samePlans _ _ s)).plansInOrder h
  | crankStall => cases he; exact guarded (crankStalls_samePlans _ s)
  | camEdge => cases he; exact guarded (camEdgeAt_samePlans _ s)
  | camStall => cases he; exact guarded (camStalls_samePlans s)
  | startTimerExpiry id => cases he; exact guarded (startTimerExpires_quiet id s).samePlans
  | latenessExpiry id => cases he; exact guarded (lateness_quiet id s).samePlans
  | peakRise x => cases he; exact guarded (peakRises_quiet x s).samePlans
  | peakTimeoutAbort x => cases he; exact guarded (peakExpires_quiet x s).samePlans
  | durationEnd x => cases he; exact guarded (durationEnds_quiet x s).samePlans
  | shortAssertion x asserted =>
    cases he
    have level : SamePlans s (s.setShort x asserted) := setShort_samePlans s x asserted
    exact ((level.trans (shortAsserted_quiet x _).samePlans).ite level).plansInOrder h
  | rechargeComplete x => cases he; exact guarded (recharged_quiet x s).samePlans
  | separationElapse c => cases he; exact guarded (separationElapses_quiet c s).samePlans
  | lastEndInvalid c => cases he; exact guarded (lastEndExpires_quiet c s).samePlans
  | _ => cases hi

theorem exec_plansInOrder {i : Instr} {s t : State} (h : PlansInOrder s) (he : exec i s = .next t) :
    PlansInOrder t := by
  cases hi : i.frame? with
  | none => exact exec_event_plansInOrder hi h he
  | some f =>
    obtain ⟨c, tag, p⟩ := f
    rw [exec_of_frame hi] at he
    cases he
    exact carryOut_plansInOrder tag c p h

/-- Settles O57: a step on the empty queue leaves the plans alone (`idle_samePlans`), and every command keeps them in
order (`exec_plansInOrder`). -/
theorem plansStayInOrder : Obligations.PlansStayInOrder := by
  refine ⟨reset_plansInOrder, fun s t h hstep => ?_⟩
  unfold step at hstep
  split at hstep
  next =>
    cases hstep
    exact (idle_samePlans s).plansInOrder h
  next c rest _ =>
    have taken : SamePlans s { s with pending := rest } := .of_store rfl rfl
    exact exec_plansInOrder (taken.plansInOrder h) hstep

end Sys2Proof.Machine

/-! PROOFS. The reading commands (R67, R99, R174, R189): each answers from the state and changes nothing but the
reply. -/

namespace Sys2Proof.Machine

open Sys2Proof.Safety

/-- In RUN, a frame command whose owner only answers stores that answer and changes nothing else (R168). -/
theorem exec_of_answer {i : Instr} {c : Command} {tag : Byte} {p reply : List Byte} {st : Status} {s : State}
    (hi : i.frame? = some (c, tag, p)) (hrun : s.running = true) (ho : owner c p s = ⟨s, st, reply⟩) :
    exec i s = .next (answered s st tag reply) := by
  rw [exec_of_frame hi, carryOut_running hrun, ho]
  rfl

/-! ### READ_PLAN -/

theorem bankOfCode_eq_none {b : Byte} (h0 : b ≠ 0) (h1 : b ≠ 1) : bankOfCode b.toNat = none := by
  unfold bankOfCode
  split
  next h => exact absurd (BitVec.eq_of_toNat_eq h) h0
  next h => exact absurd (BitVec.eq_of_toNat_eq h) h1
  next => rfl

/-- An entry of the reply: the pulse entry's five bytes, then its parity verdict (R204). -/
theorem planRecord_eq :
    planRecord = fun e => entryBytes ⟨kindCode e.kind, e.start, e.duration⟩ ++ [if parityGood e then 0 else 1] := by
  funext e
  cases h : parityGood e <;> simp [planRecord, entryBytes, h, bit, byte]

theorem two_mul_bit (b : Bool) : 2 * bit b = if b then 2 else 0 := by cases b <;> rfl

theorem ownReadPlan_limp (n : Byte) (s : State) :
    ownReadPlan [2, n] s = answerOk s (planReply s 0 [s.store.limp]) := rfl

theorem ownReadPlan_bank {sel n : Byte} {x : Bank} {c : Cylinder} (s : State) (hx : bankOfCode sel.toNat = some x)
    (hc : cylOfNumber n.toNat = some c) :
    ownReadPlan [sel, n] s = answerOk s (planReply s (s.store.bank x).tag ((s.store.bank x).plans.get c)) := by
  have hsel : sel.toNat ≠ 2 := fun h => by simp [h, bankOfCode] at hx
  simp [ownReadPlan, withLength, u8, hsel, hx, hc]

theorem ownReadPlan_refused {sel n : Byte} (s : State) (hsel : sel ≠ 2)
    (h : cylOfNumber n.toNat = none ∨ bankOfCode sel.toNat = none) :
    ownReadPlan [sel, n] s = refuse s .badValue [] := by
  have hsel' : sel.toNat ≠ 2 := fun h => hsel (BitVec.eq_of_toNat_eq h)
  rcases h with h | h <;> simp [ownReadPlan, withLength, u8, hsel', h]

/-- READ_PLAN answered with a tag and entries, its reply spelled out. -/
theorem exec_readPlan_of_entries {tag t : Byte} {p : List Byte} {es : List PlanEntry} {s : State}
    (hrun : s.running = true) (ho : ownReadPlan p s = answerOk s (planReply s t es)) :
    exec (.readPlan tag p) s = .next (answered s .ok tag
      ([byte (bankCode s.store.active + if s.store.pendingSwap.isSome then 2 else 0), s.store.pendingSwap.getD 0, t,
        byte es.length] ++
      es.flatMap (fun e => entryBytes ⟨kindCode e.kind, e.start, e.duration⟩ ++ [if parityGood e then 0 else 1]))) := by
  rw [planReply, planRecord_eq, two_mul_bit] at ho
  exact exec_of_answer rfl hrun ho

/-! ### READ_SHADOW and READ_FAULT -/

theorem ownReadShadow_refused {n : Byte} (s : State) (hn : cylOfNumber n.toNat = none) :
    ownReadShadow [n] s = refuse s .badValue [] := by
  simp [ownReadShadow, withLength, u8, hn]

theorem ownReadShadow_empty {n : Byte} {c : Cylinder} {s : State} (hn : cylOfNumber n.toNat = some c)
    (hc : s.queue.captures.get c = none) : ownReadShadow [n] s = answerOk s (0#8 :: List.replicate 16 0xFF#8) := by
  simp [ownReadShadow, withLength, u8, hn, hc]

theorem ownReadShadow_capture {n : Byte} {c : Cylinder} {k : Capture} {s : State} (hn : cylOfNumber n.toNat = some c)
    (hc : s.queue.captures.get c = some k) : ownReadShadow [n] s = answerOk s (1#8 :: captureBytes k) := by
  simp [ownReadShadow, withLength, u8, hn, hc]

theorem ownReadFault_empty {s : State} (h : s.notices.first = none) :
    ownReadFault [] s = answerOk s ([s.notices.summary, 0] ++ List.replicate 12 0xFF#8) := by
  simp [ownReadFault, withLength, h]

theorem ownReadFault_detail {f : FirstFault} {s : State} (h : s.notices.first = some f) :
    ownReadFault [] s = answerOk s ([s.notices.summary, 1] ++ faultBytes f) := by
  simp [ownReadFault, withLength, h]

/-- Settles O10: each command's owner only answers, and its reply is the one the rules lay out. -/
theorem readingCommandsOnlyReply : Obligations.ReadingCommandsOnlyReply := by
  refine ⟨fun tag s hrun => ⟨exec_of_answer rfl hrun rfl, exec_of_answer rfl hrun rfl⟩,
    fun tag sel n s hrun => ⟨?readPlan, ?readShadow⟩, fun tag s hrun => ?readFault⟩
  case readPlan =>
    by_cases hlimp : sel = 2
    · subst hlimp
      exact exec_readPlan_of_entries hrun (ownReadPlan_limp n s)
    · simp only [if_neg hlimp]
      cases hn : cylOfNumber n.toNat with
      | none => exact exec_of_answer rfl hrun (ownReadPlan_refused s hlimp (.inl hn))
      | some c =>
        by_cases ha : sel = 0
        · subst ha
          exact exec_readPlan_of_entries hrun (ownReadPlan_bank (x := .a) s rfl hn)
        · by_cases hb : sel = 1
          · subst hb
            exact exec_readPlan_of_entries hrun (ownReadPlan_bank (x := .b) s rfl hn)
          · simp only [if_neg ha, if_neg hb]
            exact exec_of_answer rfl hrun (ownReadPlan_refused s hlimp (.inr (bankOfCode_eq_none ha hb)))
  case readShadow =>
    cases hn : cylOfNumber n.toNat with
    | none => exact exec_of_answer rfl hrun (ownReadShadow_refused s hn)
    | some c =>
      dsimp only
      cases hc : s.queue.captures.get c with
      | none => exact exec_of_answer rfl hrun (ownReadShadow_empty hn hc)
      | some k => exact exec_of_answer rfl hrun (ownReadShadow_capture hn hc)
  case readFault =>
    cases hf : s.notices.first with
    | none => exact exec_of_answer rfl hrun (ownReadFault_empty hf)
    | some f =>
      refine (exec_of_answer (c := .readFault) rfl hrun (ownReadFault_detail hf)).trans ?_
      -- the bank's byte, all ones when the kind has no bank (R205)
      rcases f with ⟨_, _, _ | _ | _, _, _, _, _⟩ <;> rfl

end Sys2Proof.Machine

/-! PROOFS. The ends of the two phases of a pulse: the peak that ends the boost phase (R133, R134) and the duration end
that ends the pulse (R137, R138). -/

namespace Sys2Proof.Machine

open Sys2Proof.Safety

/-! ### Drive banks and outputs -/

/-- Of two writes to one drive bank the later one stands. -/
@[simp] theorem State.setDrive_setDrive_same (s : State) (x : Bank) (d e : DriveBank) :
    (s.setDrive x d).setDrive x e = s.setDrive x e := by
  cases x <;> rfl

/-- The drive banks and the requests are written apart from each other. -/
theorem State.setRequests_setDrive (s : State) (x : Bank) (d : DriveBank) (rs : List Request) :
    (s.setDrive x d).setRequests rs = (s.setRequests rs).setDrive x d := by
  cases x <;> rfl

theorem outputsOff_eq (x : Bank) (c : Cylinder) (s : State) :
    outputsOff x c s =
      State.setDrive { s with sel := s.sel.set c false } x
        { s.drive x with boostOut := false, holdOut := false, pulse := none } := by
  cases x <;> rfl

/-- The outputs go off, and only an end in BOOST starts the recharge (R139). -/
theorem rechargeIfBoost_outputsOff (x : Bank) (o : Request) (t : Time) (s : State) :
    rechargeIfBoost x o t (outputsOff x o.cylinder s) =
      State.setDrive { s with sel := s.sel.set o.cylinder false } x { s.drive x with
        boostOut := false, holdOut := false, pulse := none
        charge := if o.state = .boost then
          .charging (some (t + BitVec.ofNat 32 s.queue.limits.recharge)) else (s.drive x).charge } := by
  unfold rechargeIfBoost
  split
  case isTrue => exact startRecharge_outputsOff x o.cylinder t s
  case isFalse => exact outputsOff_eq x o.cylinder s

/-! ### The peak -/

theorem exec_peakRise (x : Bank) (s : State) :
    exec (.peakRise x) s = .next (if s.running then peakRises x s else s) := rfl

theorem peakRises_of_no_occupant {x : Bank} {s : State} (ho : occupant x s = none) : peakRises x s = s := by
  rw [peakRises, ho]

/-- An occupant in HOLD takes no peak (R134). -/
theorem peakRises_of_not_boost {x : Bank} {o : Request} {s : State} (ho : occupant x s = some o)
    (hb : o.state ≠ .boost) : peakRises x s = s := by
  simp only [peakRises, ho, if_neg hb]

/-- The effects of R133 at once: the two writes to the drive bank, its outputs and its recharge, are one. -/
theorem peakRises_of_boost {x : Bank} {o : Request} {s : State} (ho : occupant x s = some o) (hb : o.state = .boost) :
    peakRises x s =
      State.setCyl
        (State.setDrive
          (s.setRequests (s.queue.requests.map (fun r => if r = o then { r with state := .hold } else r))) x
          { s.drive x with
            boostOut := false, holdOut := true
            pulse := (s.drive x).pulse.map (fun p => { p with peakExpiry := none })
            charge := .charging (some (later s.now s.queue.limits.recharge)) })
        o.cylinder { s.cyl o.cylinder with failures := 0 } := by
  have moved : (fun r => if r = o then { o with state := .hold } else r) =
      fun r : Request => if r = o then { r with state := .hold } else r :=
    funext fun r => ite_congr rfl (fun h => by rw [h]) (fun _ => rfl)
  simp [peakRises, ho, hb, moved, peakSuccess, startRecharge, State.setRequests_setDrive]

/-- Settles O30, by the three findings of the edge: no occupant, one in BOOST, and one in HOLD. -/
theorem peakEndsTheBoostPhase : Obligations.PeakEndsTheBoostPhase := by
  intro x s hrun
  rw [exec_peakRise, if_pos hrun]
  cases ho : occupant x s with
  | none => rw [peakRises_of_no_occupant ho]
  | some o =>
    dsimp only
    split
    case isTrue hb => rw [peakRises_of_boost ho hb]; rfl
    case isFalse hb => rw [peakRises_of_not_boost ho hb]

/-! ### The duration end -/

theorem exec_durationEnd (x : Bank) (s : State) :
    exec (.durationEnd x) s = .next (if s.running then durationEnds x s else s) := rfl

theorem durationEnds_of_reached {x : Bank} {o : Request} {p : PulseRecord} {s : State} (ho : occupant x s = some o)
    (hp : (s.drive x).pulse = some p) (ht : reached p.durationEnd s.now = true) :
    durationEnds x s = pulseEnds x o p.durationEnd s := by
  simp only [durationEnds, ho, hp, if_pos ht]

/-- Settles O32: the duration end that is reached ends the pulse, in HOLD and in BOOST alike but for the recharge
(`rechargeIfBoost_outputsOff`). -/
theorem durationEndEndsThePulse : Obligations.DurationEndEndsThePulse := by
  intro x o p s hrun ho hp ht
  have hreached : reached p.durationEnd s.now = true := decide_eq_true ht
  rw [exec_durationEnd, if_pos hrun, durationEnds_of_reached ho hp hreached, pulseEnds, rechargeIfBoost_outputsOff]
  rfl

end Sys2Proof.Machine

/-! PROOFS. The commands of the Fueling Supervisor (R149 to R151): the judgment of the age in the claims' terms (R153),
and the first field that fails of SET_FUELING as the failure the command reports. -/

namespace Sys2Proof.Machine

open Sys2Proof.Safety

/-- In RUN, a frame command leaves the state its owner makes, with the owner's answer stored (R168). -/
theorem exec_of_owner {i : Instr} {c : Command} {tag : Byte} {p reply : List Byte} {st : Status} {s t : State}
    (hi : i.frame? = some (c, tag, p)) (hrun : s.running = true) (ho : owner c p s = ⟨t, st, reply⟩) :
    exec i s = .next (answered t st tag reply) := by
  rw [exec_of_frame hi, carryOut_running hrun, ho]
  rfl

/-! ### FUEL_CUT -/

theorem ownFuelCut_of_flag {v : Byte} (s : State) (hv : v = 0 ∨ v = 1) :
    ownFuelCut [v] s = (
      let t := deriveFueling .host (s.setFueling { s.fueling with hostCut := decide (v = 1) })
      answerOk t (fuelReply t)) := by
  rcases hv with rfl | rfl <;> rfl

theorem ownFuelCut_refused {v : Byte} (s : State) (hv : ¬ (v = 0 ∨ v = 1)) :
    ownFuelCut [v] s = refuse s .badValue [] := by
  have hlarge : 1 < v.toNat := by bv_omega
  exact if_pos hlarge

/-! ### The checks of SET_FUELING -/

/-- Where the checks have no positions, the first failure is the least number that fails. -/
theorem firstFailure_iff {fails : Nat → Prop} {k : Nat} :
    FirstFailure (fun j _ => fails j) k 0 ↔ fails k ∧ ∀ j < k, ¬ fails j := by
  refine and_congr_right fun _ => ⟨fun hfirst j hj hf => ?_, fun hleast j i hf => ?_⟩
  · rcases hfirst j 0 hf with hlt | ⟨rfl, -⟩ <;> omega
  · have : ¬ j < k := fun hj => hleast j hj hf
    omega

theorem fuelingFails_field {hold cut limit hysteresis limp k : Nat}
    (hk : FuelingFails hold cut limit hysteresis limp k) : 1 ≤ k ∧ k < 1 + 6 :=
  match k, hk with
  | 1, _ | 2, _ | 3, _ | 4, _ | 5, _ | 6, _ => by decide

section Checks

variable {h c o0 o1 y0 y1 l : Byte}

/-- The checks of R151 in their order, on the fields as R151 reads them. -/
theorem fuelingFailure_eq :
    fuelingFailure [h, c, o0, o1, y0, y1, l] =
      if h.toNat < 1 ∨ 254 < h.toNat then some 1
      else if c.toNat < 2 ∨ 255 < c.toNat then some 2
      else if word o0 o1 < 1000 ∨ 4000 < word o0 o1 then some 3
      else if word y0 y1 < 50 ∨ 500 < word y0 y1 then some 4
      else if 1 < l.toNat then some 5
      else if c.toNat ≤ h.toNat then some 6
      else none := by
  simp only [fuelingFailure, Bool.or_eq_true, decide_eq_true_eq]
  rfl

open Classical in
/-- The checks are a search for the first field, from 1 to 6, that fails. -/
theorem fuelingFailure_eq_find? :
    fuelingFailure [h, c, o0, o1, y0, y1, l] =
      (List.range' 1 6).find? (fun k => FuelingFails h.toNat c.toNat (word o0 o1) (word y0 y1) l.toNat k) := by
  rw [fuelingFailure_eq]
  simp only [List.range', List.find?_cons, List.find?_nil, FuelingFails]
  grind

theorem fuelingFailure_none
    (hnone : ∀ k, ¬ FuelingFails h.toNat c.toNat (word o0 o1) (word y0 y1) l.toNat k) :
    fuelingFailure [h, c, o0, o1, y0, y1, l] = none := by
  classical
  rw [fuelingFailure_eq_find?, List.find?_eq_none]
  exact fun k _ hk => hnone k (of_decide_eq_true hk)

/-- The field reported is the first that fails: the checks before it have passed. -/
theorem fuelingFailure_first {k : Nat}
    (hfirst : FirstFailure (fun j _ => FuelingFails h.toNat c.toNat (word o0 o1) (word y0 y1) l.toNat j) k 0) :
    fuelingFailure [h, c, o0, o1, y0, y1, l] = some k := by
  classical
  obtain ⟨hk, passed⟩ := firstFailure_iff.mp hfirst
  rw [fuelingFailure_eq_find?, List.find?_range'_eq_some]
  exact ⟨decide_eq_true hk, List.mem_range'_1.mpr (fuelingFails_field hk), fun j _ hj => by simpa using passed j hj⟩

theorem ownSetFueling_refused {k : Nat} (s : State) (hk : fuelingFailure [h, c, o0, o1, y0, y1, l] = some k) :
    ownSetFueling [h, c, o0, o1, y0, y1, l] s = refuse s .badValue [byte k] := by
  simp [ownSetFueling, withLength, hk]

theorem ownSetFueling_accepted (s : State) (hnone : fuelingFailure [h, c, o0, o1, y0, y1, l] = none) :
    ownSetFueling [h, c, o0, o1, y0, y1, l] s =
      answerOk (deriveFueling .settings (judgeExpired (judgeSpeed (s.setFueling { s.fueling with
        holdLimit := h.toNat, cutLimit := c.toNat, overspeedLimit := word o0 o1, hysteresis := word y0 y1
        limpOn := l.toNat == 1 })))) [] := by
  simp only [ownSetFueling, withLength, hnone]
  rfl

end Checks

/-! ### The judgment of the age -/

/-- The flag says whether the age has reached the cut limit, and only a new reaching is noticed (R153). -/
theorem judgeExpired_eq (s : State) :
    judgeExpired s = (
      let f := s.fueling
      let u := s.setFueling { f with expired := decide (f.lastAge ≥ f.cutLimit) }
      if f.expired = false ∧ f.lastAge ≥ f.cutLimit then
        raise .planExpired .absent none (half (f.lastAge + 256 * f.cutLimit)) u
      else u) := by
  have kept {b : Bool} (hb : s.fueling.expired = b) : s.setFueling { s.fueling with expired := b } = s := by
    rw [← hb]; rfl
  by_cases hage : s.fueling.cutLimit ≤ s.fueling.lastAge
  case pos =>
    cases hexp : s.fueling.expired with
    | false => simp [judgeExpired, planExpiredDetail, hexp, hage]
    | true => simp [judgeExpired, hexp, hage, Nat.not_lt.mpr hage, kept hexp]
  case neg =>
    cases hexp : s.fueling.expired with
    | false => simp [judgeExpired, hexp, hage, kept hexp]
    | true => simp [judgeExpired, hexp, hage, Nat.not_le.mp hage]

/-- Settles O24: each command's owner sets what its payload says and derives the state once; FUEL_CUT splits on its
byte, SET_FUELING on the first field that fails (`fuelingFailure_first`, `fuelingFailure_none`). -/
theorem fuelingCommandsSetAndDerive : Obligations.FuelingCommandsSetAndDerive := by
  refine ⟨fun tag v s hrun => ⟨exec_of_owner rfl hrun rfl, exec_of_owner rfl hrun rfl, ?fuelCut⟩,
    fun tag h c o0 o1 y0 y1 l s hrun => ⟨fun field hfirst => ?refused, fun hnone => ?accepted⟩⟩
  case fuelCut =>
    dsimp only
    split
    case isTrue hv => exact exec_of_owner rfl hrun (ownFuelCut_of_flag s hv)
    case isFalse hv => exact exec_of_owner rfl hrun (ownFuelCut_refused s hv)
  case refused => exact exec_of_owner rfl hrun (ownSetFueling_refused s (fuelingFailure_first hfirst))
  case accepted =>
    have hlimp : (l.toNat == 1) = decide (l = 1) := by
      rw [Bool.eq_iff_iff]; simp [BitVec.toNat_eq]
    have ho := ownSetFueling_accepted s (fuelingFailure_none hnone)
    rw [judgeExpired_eq, hlimp] at ho
    exact exec_of_owner rfl hrun ho

end Sys2Proof.Machine

/-! PROOFS. The commands of the Notice Unit that change it, FETCH_NOTICES, SET_NOTICE_MASK and CLEAR_FAULT (R183, R184,
R189), and the two reads that reset what they answer, READ_MARKS and READ_COUNTERS (R186, R187). -/

namespace Sys2Proof.Machine

/-! ### FETCH_NOTICES -/

/-- ALERT_N stays asserted exactly when there were more notices than are removed (R182). -/
theorem removeOldest_eq (u : NoticeUnit) (n : Nat) :
    removeOldest u n = { u with queue := u.queue.drop n, alert := decide (n < u.queue.length) } := by
  have left : (!(u.queue.drop n).isEmpty) = decide (n < u.queue.length) := by
    rw [Bool.eq_iff_iff]; simp
  rw [removeOldest, left]

theorem ownFetchNotices_refused {n : Byte} (s : State) (hn : ¬ (1 ≤ n.toNat ∧ n.toNat ≤ 6)) :
    ownFetchNotices [n] s = refuse s .badValue [] := by
  have outside : (decide (n.toNat < 1) || decide (6 < n.toNat)) = true := by
    rw [Bool.or_eq_true, decide_eq_true_eq, decide_eq_true_eq]; omega
  exact if_pos outside

theorem ownFetchNotices_taken {n : Byte} (s : State) (hn : 1 ≤ n.toNat ∧ n.toNat ≤ 6) :
    ownFetchNotices [n] s = answerOk
      (s.setNotices { s.notices with
        queue := s.notices.queue.drop n.toNat, alert := decide (n.toNat < s.notices.queue.length) })
      (byte (min n.toNat s.notices.queue.length) :: (s.notices.queue.take n.toNat).flatMap noticeBytes) := by
  have inside : ¬ (decide (n.toNat < 1) || decide (6 < n.toNat)) = true := by
    rw [Bool.or_eq_true, decide_eq_true_eq, decide_eq_true_eq]; omega
  rw [← removeOldest_eq, ← List.length_take]
  exact if_neg inside

/-! ### SET_NOTICE_MASK -/

/-- The writable entries are those of the report kinds other than RESET (R184). -/
theorem maskWritable_noticeCode (k : NoticeKind) :
    maskWritable.getLsbD (noticeCode k) = !decide ((faultPosition k).isSome ∨ k = .reset) := by
  cases k <;> rfl

theorem maskAfter_noticeCode (mask : BitVec 19) (field : Nat) (k : NoticeKind) :
    (maskAfter mask field).getLsbD (noticeCode k) =
      if (faultPosition k).isSome ∨ k = .reset then mask.getLsbD (noticeCode k)
      else field.testBit (noticeCode k) := by
  have hk : (noticeCode k).val < 19 := (noticeCode k).isLt
  simp only [maskAfter, BitVec.getLsbD_or, BitVec.getLsbD_and, BitVec.getLsbD_not, BitVec.getLsbD_ofNat,
    maskWritable_noticeCode]
  by_cases hfixed : (faultPosition k).isSome ∨ k = .reset <;> simp [hfixed, hk]

/-- The 24-bit field of a payload is its three bytes, the least significant first (R200). -/
theorem field24_eq (b0 b1 b2 : Byte) :
    b0.toNat + 256 * b1.toNat + 65536 * b2.toNat = (b2 ++ b1 ++ b0).toNat := by
  rw [BitVec.toNat_append, BitVec.toNat_append, ← Nat.shiftLeft_add_eq_or_of_lt b1.isLt,
    ← Nat.shiftLeft_add_eq_or_of_lt b0.isLt, Nat.shiftLeft_eq, Nat.shiftLeft_eq]
  omega

theorem ownSetNoticeMask_eq (b0 b1 b2 : Byte) (s : State) :
    ownSetNoticeMask [b0, b1, b2] s = answerOk
      (s.setNotices { s.notices with mask := maskAfter s.notices.mask (b2 ++ b1 ++ b0).toNat }) [] := by
  rw [← field24_eq]
  rfl

/-- Settles O12: each command's owner is the change named; FETCH_NOTICES splits on the number asked for, and the entries
of the new mask are those of `maskAfter_noticeCode`. -/
theorem fetchMaskAndClearFault : Obligations.FetchMaskAndClearFault := by
  refine ⟨fun tag n s hrun => ?fetch, fun tag b0 b1 b2 s hrun => ?mask,
    fun tag set s hrun => exec_of_owner rfl hrun rfl⟩
  case fetch =>
    split
    case isTrue hn => exact exec_of_owner rfl hrun (ownFetchNotices_taken s hn)
    case isFalse hn => exact exec_of_owner rfl hrun (ownFetchNotices_refused s hn)
  case mask =>
    exact ⟨_, exec_of_owner rfl hrun (ownSetNoticeMask_eq b0 b1 b2 s), maskAfter_noticeCode s.notices.mask _⟩

/-! ### READ_COUNTERS -/

theorem ownReadCounters_refused {g c : Byte} (s : State) (h : 2 < g.toNat ∨ 1 < c.toNat) :
    ownReadCounters [g, c] s = refuse s .badValue [] := by
  simp [ownReadCounters, withLength, u8, h]

/-- The reply is taken before the group is cleared (R186). -/
theorem ownReadCounters_taken {g c : Byte} (s : State) (h : ¬ (2 < g.toNat ∨ 1 < c.toNat)) :
    ownReadCounters [g, c] s = answerOk
      (if c = 1 then s.setNotices (clearGroup s.notices g.toNat) else s) (groupBytes s.notices g.toNat) := by
  have passed : ¬ (decide (2 < g.toNat) || decide (1 < c.toNat)) = true := by
    rwa [Bool.or_eq_true, decide_eq_true_eq, decide_eq_true_eq]
  by_cases hc : c = 1
  · subst hc
    exact if_neg passed
  · rw [if_neg hc]
    exact (if_neg passed).trans (if_neg (hc ∘ BitVec.eq_of_toNat_eq))

/-- Settles O13: READ_MARKS has one case; READ_COUNTERS splits on its checks, then on the three groups. -/
theorem marksAndCountersAreReadAndReset : Obligations.MarksAndCountersAreReadAndReset := by
  refine ⟨fun tag s hrun => exec_of_owner rfl hrun rfl, fun tag g c s hrun => ?counters⟩
  split
  case isTrue h => exact exec_of_owner rfl hrun (ownReadCounters_refused s h)
  case isFalse h =>
    refine (exec_of_owner (c := .readCounters) rfl hrun (ownReadCounters_taken s h)).trans ?_
    by_cases h0 : g = 0
    · subst h0; rfl
    · by_cases h1 : g = 1
      · subst h1; rfl
      · obtain rfl : g = 2 := by bv_omega
        rfl

end Sys2Proof.Machine

/-! PROOFS. The fueling state as the derived one (R154 to R157): what the supervisor was last handed, kept by every
operation that is no hand-over, brought up to date by each hand-over, and the part disarmed outside RUN. -/

namespace Sys2Proof.Machine

open Sys2Proof.Safety

/-! ### Any property through a payload length -/

/-- A property that the state and the owner's outcome both have survives the check of the payload length (R171). -/
theorem withLength_keeps {P : State → Prop} {n : Nat} {p : List Byte} {s : State} {run : State → Answer} (hs : P s)
    (hr : P (run s).state) : P (withLength n p s run).state := by
  unfold withLength
  split
  · exact hr
  · exact hs

theorem answer_ite_keeps {P : State → Prop} {a b : Answer} {c : Prop} [Decidable c] (h : P a.state) (g : P b.state) :
    P (if c then a else b).state := by split <;> assumption

theorem ite_keeps {P : State → Prop} {t u : State} {c : Prop} [Decidable c] (h : P t) (g : P u) :
    P (if c then t else u) := by split <;> assumption

/-! ### What the supervisor holds -/

/-- The supervisor's state is the derived one; it holds a speed and a sync state as the last it was handed, the store's
age and the clock source; outside RUN the part is not armed. -/
structure Informed (speed : Nat) (sync : SyncState) (s : State) : Prop where
  derived : s.fueling.state = derivedState s.fueling
  speed : s.fueling.lastSpeed = speed
  sync : s.fueling.lastSync = sync
  age : s.fueling.lastAge = s.store.age
  clock : s.fueling.clockCut = (s.control.clock == .fallback)
  disarmed : s.running = false → s.fueling.armed = false

theorem supervised_iff_informed {s : State} : Supervised s ↔ Informed s.tracker.speed s.tracker.sync s :=
  ⟨fun ⟨a, b, c, d, e, f⟩ => ⟨a, c, b, d, e, f⟩, fun ⟨a, c, b, d, e, f⟩ => ⟨a, b, c, d, e, f⟩⟩

/-- `t` differs from `s` in nothing that the supervisor holds or answers for, the tracker's values aside. -/
structure SameSupervision (s t : State) : Prop where
  fueling : t.fueling = s.fueling
  age : t.store.age = s.store.age
  clock : t.control.clock = s.control.clock
  running : t.running = s.running

theorem SameSupervision.refl (s : State) : SameSupervision s s := ⟨rfl, rfl, rfl, rfl⟩

theorem SameSupervision.informed {s t : State} {v : Nat} {y : SyncState} (h : SameSupervision s t)
    (hs : Informed v y s) : Informed v y t where
  derived := by rw [h.fueling]; exact hs.derived
  speed := by rw [h.fueling]; exact hs.speed
  sync := by rw [h.fueling]; exact hs.sync
  age := by rw [h.fueling, h.age]; exact hs.age
  clock := by rw [h.fueling, h.clock]; exact hs.clock
  disarmed := by rw [h.fueling, h.running]; exact hs.disarmed

theorem Quiet.sameSupervision {s t : State} (h : Quiet s t) : SameSupervision s t :=
  ⟨h.fueling, by rw [h.store], by rw [h.control], h.running⟩

theorem Quiet.informed {s t : State} {v : Nat} {y : SyncState} (h : Quiet s t) (hs : Informed v y s) :
    Informed v y t := h.sameSupervision.informed hs

theorem setTracker_informed {s : State} {v : Nat} {y : SyncState} (t : Tracker) (hs : Informed v y s) :
    Informed v y (s.setTracker t) := SameSupervision.informed (s := s) ⟨rfl, rfl, rfl, rfl⟩ hs

/-- Where the tracker's speed and sync state stand too, the supervision does. -/
theorem SameSupervision.supervised {s t : State} (h : SameSupervision s t) (hv : t.tracker.speed = s.tracker.speed)
    (hy : t.tracker.sync = s.tracker.sync) (hs : Supervised s) : Supervised t := by
  rw [supervised_iff_informed, hv, hy]
  exact h.informed (supervised_iff_informed.mp hs)

theorem Quiet.supervised {s t : State} (h : Quiet s t) (hs : Supervised s) : Supervised t :=
  h.sameSupervision.supervised (by rw [h.tracker]) (by rw [h.tracker]) hs

/-- A tracker replaced by one of the same speed and sync state. -/
theorem setTracker_supervised {s : State} {t : Tracker} (hv : t.speed = s.tracker.speed) (hy : t.sync = s.tracker.sync)
    (hs : Supervised s) : Supervised (s.setTracker t) := SameSupervision.supervised (s := s) ⟨rfl, rfl, rfl, rfl⟩ hv hy hs

/-! ### The hand-overs -/

/-- A derivation after any change of the supervisor's inputs: the state is the derived one again (R157). -/
theorem deriveFueling_informed {c : FuelCause} {s : State} (age : s.fueling.lastAge = s.store.age)
    (clock : s.fueling.clockCut = (s.control.clock == .fallback)) (disarmed : s.running = false → s.fueling.armed = false) :
    Informed s.fueling.lastSpeed s.fueling.lastSync (deriveFueling c s) := by
  have frame := deriveFueling_fuelOnly c s
  have hf := deriveFueling_fueling c s
  refine ⟨?_, by rw [hf], by rw [hf], ?_, ?_, ?_⟩
  · rw [hf]; rfl
  · rw [hf, frame.store]; exact age
  · rw [hf, frame.control]; exact clock
  · rw [hf, State.running, frame.control]; exact disarmed

theorem handSpeed_informed {s : State} {v : Nat} {y : SyncState} (hs : Informed v y s) :
    Informed s.tracker.speed y (handSpeed s) := by
  have h := deriveFueling_informed (c := .speed)
    (s := judgeSpeed (s.setFueling { s.fueling with lastSpeed := s.tracker.speed })) hs.age hs.clock hs.disarmed
  rw [← hs.sync]
  exact h

theorem handSync_informed {s : State} {v : Nat} {y : SyncState} (hs : Informed v y s) :
    Informed v s.tracker.sync (handSync s) := by
  have h := deriveFueling_informed (c := .sync) (s := s.setFueling { s.fueling with lastSync := s.tracker.sync })
    hs.age hs.clock hs.disarmed
  rw [← hs.speed]
  exact h

/-- The judgment of the age moves the expired flag alone. -/
theorem judgeExpired_fueling (s : State) : ∃ b, (judgeExpired s).fueling = { s.fueling with expired := b } := by
  unfold judgeExpired
  dsimp only
  split
  · exact ⟨true, rfl⟩
  · split
    · exact ⟨false, rfl⟩
    · exact ⟨s.fueling.expired, rfl⟩

/-- The age may have moved in the store before it is handed over: that is what the hand-over brings up to date. -/
theorem handAge_informed {s : State} {v : Nat} {y : SyncState} (t : Store) (hs : Informed v y s) :
    Informed v y (handAge (s.setStore t)) := by
  have frame := judgeExpired_fuelOnly ((s.setStore t).setFueling { s.fueling with lastAge := t.age })
  obtain ⟨b, hb⟩ := judgeExpired_fueling ((s.setStore t).setFueling { s.fueling with lastAge := t.age })
  have h := deriveFueling_informed (c := .age) (by rw [hb, frame.store]; rfl)
    (by rw [hb, frame.control]; exact hs.clock) (by rw [hb, State.running, frame.control]; exact hs.disarmed)
  rw [hb] at h
  rw [← hs.speed, ← hs.sync]
  exact h

theorem handClock_informed {s : State} {v : Nat} {y : SyncState} (hs : Informed v y s) {c : Control}
    (hmode : c.mode = s.control.mode) : Informed v y (handClock (s.setControl c)) := by
  have h := deriveFueling_informed (c := .clock)
    (s := (s.setControl c).setFueling { s.fueling with clockCut := c.clock == .fallback }) hs.age rfl
    (by rw [State.running]; simp only [State.setFueling_control, State.setControl_control, hmode]; exact hs.disarmed)
  rw [← hs.speed, ← hs.sync]
  exact h

/-! ### The swap and the origin event -/

theorem swapTakesEffect_informed {s : State} {v : Nat} {y : SyncState} (g : Byte) (b : Bool) (hs : Informed v y s) :
    Informed v y (swapTakesEffect g b s) := by
  have settled (u : State) : SameSupervision u (u.setStore { u.store with pendingSwap := none }) := ⟨rfl, rfl, rfl, rfl⟩
  exact (raise_quiet _ _ _ _ _).informed ((settled _).informed (handAge_informed _ hs))

theorem originEvent_informed {s : State} {v : Nat} {y : SyncState} (hs : Informed v y s) :
    Informed v y (originEvent s) := by
  have counted : Informed v y (clearPlanned { s with tracker := { s.tracker with cycle := s.tracker.cycle + 1 } }) :=
    SameSupervision.informed (s := s) ⟨rfl, rfl, rfl, rfl⟩ hs
  show Informed v y (storeOrigin _)
  unfold storeOrigin
  split
  · exact swapTakesEffect_informed _ _ counted
  · exact handAge_informed _ counted

/-! ### The tracker -/

/-- After the speed alone has moved, its hand-over restores the supervision. -/
theorem handSpeed_supervised {s : State} {v : Nat} (hs : Informed v s.tracker.sync s) : Supervised (handSpeed s) := by
  rw [supervised_iff_informed, (handSpeed_fuelOnly s).tracker]
  exact handSpeed_informed hs

/-- After the sync state alone has moved, its hand-over restores the supervision. -/
theorem handSync_supervised {s : State} {y : SyncState} (hs : Informed s.tracker.speed y s) : Supervised (handSync s) := by
  rw [supervised_iff_informed, (handSync_fuelOnly s).tracker]
  exact handSync_informed hs

/-- After both have moved, the two hand-overs restore the supervision. -/
theorem handBoth_supervised {s : State} {v : Nat} {y : SyncState} (hs : Informed v y s) :
    Supervised (handSync (handSpeed s)) := by
  refine handSync_supervised (y := y) ?_
  rw [(handSpeed_fuelOnly s).tracker]
  exact handSpeed_informed hs

theorem loseSync_quiet (n : Nat) (s : State) : Quiet s (loseSync n s) :=
  (dropNonDriving_quiet _ s).trans (raise_quiet _ _ _ _ _)

theorem enterStopped_supervised {s : State} {v : Nat} {y : SyncState} (hs : Informed v y s) :
    Supervised (enterStopped s) := handBoth_supervised (setTracker_informed _ hs)

theorem gainSync_supervised {s : State} {y : SyncState} (l : SyncState) (hs : Informed s.tracker.speed y s) :
    Supervised (gainSync l s) := handSync_supervised (y := y) ((raise_quiet _ _ _ _ s).informed hs)

theorem noteCamMissing_supervised {s : State} {y : SyncState} (hs : Informed s.tracker.speed y s) :
    Supervised (noteCamMissing s) := handSync_supervised (y := y) ((raise_quiet _ _ _ _ s).informed hs)

theorem publishTooth_tracker (now : Time) (α i n : Nat) (s : State) :
    (publishTooth now α i n s).tracker.speed = s.tracker.speed ∧
      (publishTooth now α i n s).tracker.sync = s.tracker.sync := by
  unfold publishTooth
  dsimp only
  rw [(toothEvent_quiet _ _).tracker]
  split
  · rw [(originEvent_frame _).1, (handSpeed_fuelOnly s).tracker]; exact ⟨rfl, rfl⟩
  · rw [(handSpeed_fuelOnly s).tracker]; exact ⟨rfl, rfl⟩

/-- A tooth hands the speed over; the sync state handed last stands. -/
theorem publishTooth_informed {s : State} {v : Nat} {y : SyncState} (now : Time) (α i n : Nat) (hs : Informed v y s) :
    Informed s.tracker.speed y (publishTooth now α i n s) := by
  have handed := handSpeed_informed hs
  exact (toothEvent_quiet _ _).informed (ite_keeps (originEvent_informed handed) handed)

theorem publishTooth_supervised {s : State} {v : Nat} (now : Time) (α i n : Nat) (hs : Informed v s.tracker.sync s) :
    Supervised (publishTooth now α i n s) := by
  obtain ⟨hv, hy⟩ := publishTooth_tracker now α i n s
  rw [supervised_iff_informed, hv, hy]
  exact publishTooth_informed now α i n hs

/-- At a window close that changes the sync state CAM_MISSING's hand-over comes before or after the tooth's (log 11). -/
theorem publishEdge_supervised {s : State} {v : Nat} (now : Time) (q α i n : Nat) (hs : Informed v s.tracker.sync s) :
    Supervised (publishEdge now q α i n s) := by
  have closed : Informed v s.tracker.sync (s.setTracker s.tracker.closeWindow) := setTracker_informed _ hs
  unfold publishEdge
  split
  · dsimp only
    split
    · rename_i hsync
      exact publishTooth_supervised (v := v) now α i n (by simpa [hsync] using closed)
    · split
      · refine publishTooth_supervised (v := v) now α i n ?_
        have missing := handSync_informed ((raise_quiet .camMissing .absent none
          (half (s.setTracker s.tracker.closeWindow).tracker.camHistory.missingRun) _).informed closed)
        have htracker : (noteCamMissing (s.setTracker s.tracker.closeWindow)).tracker = s.tracker.closeWindow :=
          (handSync_fuelOnly _).tracker
        rw [htracker]
        exact missing
      · refine noteCamMissing_supervised (y := s.tracker.sync) ?_
        rw [(publishTooth_tracker now α i n _).1]
        exact publishTooth_informed now α i n closed
  · exact publishTooth_supervised (v := v) now α i n hs

theorem seekingEdge_supervised (now : Time) {s : State} (hs : Supervised s) : Supervised (seekingEdge now s) := by
  have informed := supervised_iff_informed.mp hs
  unfold seekingEdge
  dsimp only
  split
  · exact setTracker_supervised rfl rfl hs
  · exact ite_keeps (handBoth_supervised (setTracker_informed _ informed))
      (handSpeed_supervised (v := s.tracker.speed) (setTracker_informed _ informed))

theorem gapErrorAt_supervised (now : Time) {s : State} (hs : Supervised s) : Supervised (gapErrorAt now s) := by
  have informed := supervised_iff_informed.mp hs
  have counted (t : Tracker) : Informed s.tracker.speed s.tracker.sync (countGapError (s.setTracker t)) :=
    SameSupervision.informed (s := s) ⟨rfl, rfl, rfl, rfl⟩ informed
  unfold gapErrorAt
  dsimp only
  refine handSync_supervised (y := s.tracker.sync) ?_
  split
  · exact counted _
  · rw [(loseSync_quiet 0 _).tracker]
    exact (loseSync_quiet 0 _).informed (counted _)

theorem countedEdge_supervised (now : Time) {s : State} (hs : Supervised s) : Supervised (countedEdge now s) := by
  have informed := supervised_iff_informed.mp hs
  unfold countedEdge
  dsimp only
  split
  · split
    · exact handSpeed_supervised (v := s.tracker.speed) (setTracker_informed _ informed)
    · exact publishEdge_supervised (v := s.tracker.speed) now _ _ _ _ (setTracker_informed _ informed)
  · exact gapErrorAt_supervised now hs

theorem backgroundEdge_supervised (now : Time) {s : State} (hs : Supervised s) : Supervised (backgroundEdge now s) := by
  have informed := supervised_iff_informed.mp hs
  unfold backgroundEdge
  dsimp only
  split
  · exact setTracker_supervised rfl rfl hs
  · split
    · unfold seekFound
      dsimp only
      refine publishEdge_supervised (v := s.tracker.speed) now _ _ _ _ ?_
      rw [(handSync_fuelOnly _).tracker]
      exact handSync_informed ((raise_quiet _ _ _ _ _).informed ((dropNonDriving_quiet _ _).informed
        (setTracker_informed _ informed)))
    · exact setTracker_supervised rfl rfl hs

theorem acceptedEdge_supervised (now : Time) {s : State} (hs : Supervised s) : Supervised (acceptedEdge now s) := by
  unfold acceptedEdge
  cases s.tracker.sync with
  | stopped =>
    exact handSync_supervised (y := s.tracker.sync) (setTracker_informed _ (supervised_iff_informed.mp hs))
  | seeking => exact seekingEdge_supervised now hs
  | crankSync | fullSync | phaseHeld => exact countedEdge_supervised now hs
  | camOnly => exact backgroundEdge_supervised now hs

theorem activeEdge_supervised (now : Time) {s : State} (hs : Supervised s) : Supervised (activeEdge now s) :=
  ite_keeps (acceptedEdge_supervised now (setTracker_supervised rfl rfl hs))
    (SameSupervision.supervised (s := s) ⟨rfl, rfl, rfl, rfl⟩ rfl rfl hs)

theorem trailingEdge_supervised (now : Time) {s : State} (hs : Supervised s) : Supervised (trailingEdge now s) := by
  have reverse {u : State} (hu : Supervised u) : Supervised (reverseEdge now u) := by
    refine handSync_supervised (y := u.tracker.sync) ((raise_quiet _ _ _ _ _).informed (setTracker_informed _ ?_))
    simpa [Tracker.stallFrom, (reverseOrder_quiet u).tracker] using
      (reverseOrder_quiet u).informed (supervised_iff_informed.mp hu)
  have ended (t : Option Time) : Supervised (s.setTracker { s.tracker with pulseStart := t }) :=
    setTracker_supervised rfl rfl hs
  unfold trailingEdge
  split
  · exact hs
  · exact ite_keeps (P := Supervised) (reverse (ended none)) (ended none)

theorem resolvePhase_supervised (θ : Nat) {s : State} (hs : Supervised s) : Supervised (resolvePhase θ s) := by
  have informed := supervised_iff_informed.mp hs
  unfold resolvePhase
  dsimp only
  split
  · refine gainSync_supervised (y := s.tracker.sync) .crankSync (setTracker_informed _ ?_)
    split <;> exact informed
  · exact SameSupervision.supervised (s := s) ⟨rfl, rfl, rfl, rfl⟩ rfl rfl hs

theorem confirmCam_supervised {s : State} (hs : Supervised s) : Supervised (confirmCam s) :=
  ite_keeps (P := Supervised)
    (gainSync_supervised (y := s.tracker.sync) .phaseHeld (setTracker_informed _ (supervised_iff_informed.mp hs)))
    (setTracker_supervised rfl rfl hs)

theorem flipPhase_supervised {s : State} (hs : Supervised s) : Supervised (flipPhase s) :=
  (raise_quiet _ _ _ _ _).supervised ((dropNonDriving_quiet _ _).supervised (setTracker_supervised rfl rfl hs))

theorem classifyCam_supervised (θ : Nat) {s : State} (hs : Supervised s) : Supervised (classifyCam θ s) := by
  have counted : Supervised (countCamConflict s) :=
    SameSupervision.supervised (s := s) ⟨rfl, rfl, rfl, rfl⟩ rfl rfl hs
  have noise : Supervised (countCamNoise s) := SameSupervision.supervised (s := s) ⟨rfl, rfl, rfl, rfl⟩ rfl rfl hs
  have conflict : Supervised (conflictCam s) :=
    ite_keeps (P := Supervised) (confirmCam_supervised (flipPhase_supervised counted))
      (setTracker_supervised rfl rfl counted)
  exact ite_keeps (confirmCam_supervised hs) (ite_keeps conflict noise)

theorem camOnlyEdge_supervised (now : Time) {s : State} (hs : Supervised s) : Supervised (camOnlyEdge now s) := by
  have informed := supervised_iff_informed.mp hs
  have accepted (c : Nat) : Supervised (camOnlyAccepted now c s) := by
    unfold camOnlyAccepted
    dsimp only
    refine (camEvent_quiet now c _).supervised ?_
    rw [supervised_iff_informed, (originEvent_frame _).1, (handSpeed_fuelOnly _).tracker]
    exact originEvent_informed (handSpeed_informed (setTracker_informed _ informed))
  unfold camOnlyEdge
  dsimp only
  split
  · exact ite_keeps (P := Supervised) (SameSupervision.supervised (s := s) ⟨rfl, rfl, rfl, rfl⟩ rfl rfl hs) (accepted _)
  · exact accepted _

theorem placeCam_supervised {classify : Nat → State → State} (h : ∀ θ {u}, Supervised u → Supervised (classify θ u))
    (now : Time) {s : State} (hs : Supervised s) : Supervised (placeCam now classify s) := by
  unfold placeCam
  split
  · exact h _ hs
  · exact hs

theorem camEdgeAt_supervised (now : Time) {s : State} (hs : Supervised s) : Supervised (camEdgeAt now s) := by
  have updated : Supervised (s.setTracker (s.tracker.camUpdate now)) := setTracker_supervised rfl rfl hs
  unfold camEdgeAt
  cases s.tracker.sync with
  | camOnly => exact camOnlyEdge_supervised now hs
  | stopped | seeking => exact updated
  | crankSync => exact placeCam_supervised resolvePhase_supervised now updated
  | fullSync | phaseHeld => exact placeCam_supervised classifyCam_supervised now updated

theorem stallInSync_supervised (now : Time) {s : State} (hs : Supervised s) : Supervised (stallInSync now s) := by
  have informed := supervised_iff_informed.mp hs
  unfold stallInSync
  split
  · exact handBoth_supervised ((raise_quiet _ _ _ _ _).informed ((dropNonDriving_quiet _ _).informed
      (setTracker_informed _ informed)))
  · exact enterStopped_supervised ((loseSync_quiet 1 s).informed informed)

theorem crankStalls_supervised (now : Time) {s : State} (hs : Supervised s) : Supervised (crankStalls now s) := by
  unfold crankStalls
  cases s.tracker.sync with
  | seeking | crankSync => exact enterStopped_supervised (supervised_iff_informed.mp hs)
  | fullSync | phaseHeld => exact stallInSync_supervised now hs
  | camOnly | stopped => exact setTracker_supervised rfl rfl hs

theorem camStalls_supervised {s : State} (hs : Supervised s) : Supervised (camStalls s) :=
  ite_keeps (P := Supervised)
    (enterStopped_supervised ((loseSync_quiet 2 s).informed (supervised_iff_informed.mp hs)))
    (setTracker_supervised rfl rfl hs)

/-! ### Modes and the clock -/

/-- A wake source takes the part from one mode outside RUN to another. -/
theorem wakeBy_supervised (b : Bool) (w : WakeSource) {s : State} (hs : Supervised s) : Supervised (wakeBy b w s) := by
  unfold wakeBy
  split
  · rename_i h
    simp only [Bool.and_eq_true, beq_iff_eq] at h
    have stopped : s.running = false := by simp [State.running, h.1]
    exact SameSupervision.supervised (s := s) ⟨rfl, rfl, rfl, stopped.symm⟩ rfl rfl hs
  · exact hs

/-- The supervision of a part that is not armed follows from what it holds: the derived state is DISARMED. -/
theorem supervised_of_disarmed {s : State} (armed : s.fueling.armed = false) (state : s.fueling.state = .disarmed)
    (speed : s.fueling.lastSpeed = s.tracker.speed) (sync : s.fueling.lastSync = s.tracker.sync)
    (age : s.fueling.lastAge = s.store.age) (clock : s.fueling.clockCut = (s.control.clock == .fallback)) :
    Supervised s where
  derived := by rw [state]; simp [derivedState, armed]
  sync := sync
  speed := speed
  age := age
  clock := clock
  disarmed _ := armed

/-- A supervised part that is not armed is DISARMED. -/
theorem state_of_disarmed {s : State} (hs : Supervised s) (armed : s.fueling.armed = false) :
    s.fueling.state = .disarmed := by
  rw [hs.derived]; simp [derivedState, armed]

theorem noteWake_quiet (w : Option WakeSource) (s : State) : Quiet s (noteWake w s) :=
  match w with
  | none => Quiet.refl s
  | some _ => raise_quiet _ _ _ _ s

theorem noteNoReference_quiet (s : State) : Quiet s (noteNoReference s) := (raise_quiet _ _ _ _ s).ite (Quiet.refl s)

/-- The notices and the locks at the end of a warm-up (R198, steps 3 to 5). -/
theorem warmupNotes_quiet (w : Option WakeSource) (s : State) :
    Quiet s (judgeLock .b (judgeLock .a (noteNoReference (noteWake w s)))) :=
  (((noteWake_quiet w s).trans (noteNoReference_quiet _)).trans (judgeLock_quiet .a _)).trans (judgeLock_quiet .b _)

/-- The end of a warm-up finds the part disarmed, and judges the clock-cut flag with the source (R198). -/
theorem endWarmup_supervised {s : State} (hmode : s.control.mode = .warmup) (hs : Supervised s) :
    Supervised (endWarmup s) := by
  have stopped : s.running = false := by simp [State.running, hmode]
  have armed := hs.disarmed stopped
  refine (warmupNotes_quiet _ _).supervised ?_
  cases hw : s.control.wakeSource.isSome with
  | true =>
    rw [if_pos rfl]
    exact supervised_of_disarmed armed rfl rfl rfl hs.age rfl
  | false =>
    rw [if_neg (by decide)]
    have state := state_of_disarmed hs armed
    exact supervised_of_disarmed armed state hs.speed hs.sync hs.age rfl

theorem setControl_supervised {s : State} {c : Control} (hmode : c.mode = s.control.mode)
    (hclock : c.clock = s.control.clock) (hs : Supervised s) : Supervised (s.setControl c) :=
  SameSupervision.supervised (s := s) ⟨rfl, rfl, hclock, by simp only [State.running, State.setControl_control, hmode]⟩
    rfl rfl hs

theorem handClock_supervised {s : State} {c : Control} (hmode : c.mode = s.control.mode) (hs : Supervised s) :
    Supervised (handClock (s.setControl c)) := by
  rw [supervised_iff_informed, (handClock_fuelOnly _).tracker]
  exact handClock_informed (supervised_iff_informed.mp hs) hmode

theorem countGood_supervised {s : State} (hs : Supervised s) : Supervised (countGood s) := by
  have counted := setControl_supervised (c := { s.control with refCount := min 1024 (s.control.refCount + 1) }) rfl rfl hs
  exact ite_keeps (P := Supervised) (handClock_supervised rfl counted) counted

theorem countBad_supervised {s : State} (hs : Supervised s) : Supervised (countBad s) := by
  have counted := setControl_supervised (c := { s.control with refCount := 0 }) rfl rfl hs
  refine ite_keeps (P := Supervised) ?_ counted
  -- CLOCK_LOSS is raised between the switch and its hand-over; the notice and the switch touch different parts
  have swapped (k : NoticeKind) (u : State) (c : Control) :
      raise k .absent none 0 (u.setControl c) = (raiseAt c.timebase k .absent none 0 u).setControl c := rfl
  rw [swapped]
  exact handClock_supervised rfl ((raiseAt_quiet _ _ _ _ _ _).supervised counted)

theorem setLink_supervised {s : State} (l : FramePort) (hs : Supervised s) : Supervised (s.setLink l) :=
  SameSupervision.supervised (s := s) ⟨rfl, rfl, rfl, rfl⟩ rfl rfl hs

theorem fallJudged_supervised {s : State} (hs : Supervised s) : Supervised (fallJudged s) := by
  have opened (t : Transaction) (m : Option (List Byte)) : Supervised (openTransaction t m s) := setLink_supervised _ hs
  unfold fallJudged
  split
  · exact wakeBy_supervised _ _ (opened _ _)
  · exact opened _ _
  · exact ite_keeps (opened _ _) (opened _ _)

theorem turnaroundExpires_supervised {s : State} (hs : Supervised s) : Supervised (turnaroundExpires s) := by
  unfold turnaroundExpires
  split
  · exact ite_keeps (setLink_supervised _ hs) hs
  · exact hs

theorem heldInReset_supervised (s : State) : Supervised (heldInReset s) := ⟨rfl, rfl, rfl, rfl, rfl, fun _ => rfl⟩

/-! ### The part's own time -/

theorem enqueue_supervised {s : State} (xs : List Instr) (hs : Supervised s) : Supervised (enqueue xs s) :=
  ite_keeps (P := Supervised) (SameSupervision.supervised (s := s) ⟨rfl, rfl, rfl, rfl⟩ rfl rfl hs)
    (SameSupervision.supervised (s := s) ⟨rfl, rfl, rfl, rfl⟩ rfl rfl hs)

theorem idle_supervised {s : State} (hs : Supervised s) : Supervised (idle s) := by
  have waiting (p : List Instr) : Supervised { s with pending := p } :=
    SameSupervision.supervised (s := s) ⟨rfl, rfl, rfl, rfl⟩ rfl rfl hs
  unfold idle
  refine ite_keeps hs ?_
  split
  · exact ite_keeps (P := Supervised) (enqueue_supervised _ (setControl_supervised rfl rfl hs)) (enqueue_supervised _ hs)
  · exact ite_keeps (waiting _) (setControl_supervised rfl rfl hs)
  · exact ite_keeps (waiting _) hs

/-! ### The commands -/

/-- A command of the supervisor: a new setting, and a derivation after it. -/
theorem deriveFueling_supervised {c : FuelCause} {s u : State} (hs : Supervised s) (frame : FuelOnly s u)
    (speed : u.fueling.lastSpeed = s.fueling.lastSpeed) (sync : u.fueling.lastSync = s.fueling.lastSync)
    (age : u.fueling.lastAge = s.fueling.lastAge) (clock : u.fueling.clockCut = s.fueling.clockCut)
    (disarmed : u.running = false → u.fueling.armed = false) : Supervised (deriveFueling c u) := by
  rw [supervised_iff_informed, (deriveFueling_fuelOnly c u).tracker, frame.tracker, ← hs.speed, ← hs.sync, ← speed, ← sync]
  exact deriveFueling_informed (by rw [age, frame.store, hs.age]) (by rw [clock, frame.control, hs.clock]) disarmed

theorem ownSetFueling_supervised (p : List Byte) {s : State} (hrun : s.running = true) (hs : Supervised s) :
    Supervised (ownSetFueling p s).state := by
  refine withLength_keeps hs ?_
  dsimp only
  split
  · exact hs
  · obtain ⟨b, hb⟩ := judgeExpired_fueling (judgeSpeed (s.setFueling { s.fueling with
      holdLimit := u8 p 0, cutLimit := u8 p 1, overspeedLimit := u16 p 2, hysteresis := u16 p 4
      limpOn := u8 p 6 == 1 }))
    have frame := ((setFueling_fuelOnly s { s.fueling with
      holdLimit := u8 p 0, cutLimit := u8 p 1, overspeedLimit := u16 p 2, hysteresis := u16 p 4
      limpOn := u8 p 6 == 1 }).trans (judgeSpeed_fuelOnly _)).trans (judgeExpired_fuelOnly _)
    refine deriveFueling_supervised hs frame (by rw [hb]; rfl) (by rw [hb]; rfl) (by rw [hb]; rfl) (by rw [hb]; rfl) ?_
    intro stopped
    rw [State.running, frame.control] at stopped
    rw [State.running, stopped] at hrun
    cases hrun

/-- ARM, DISARM and FUEL_CUT act in RUN, where the part may be armed. -/
theorem switch_supervised {c : FuelCause} {s : State} (f : Fueling) (hrun : s.running = true) (hs : Supervised s)
    (speed : f.lastSpeed = s.fueling.lastSpeed) (sync : f.lastSync = s.fueling.lastSync)
    (age : f.lastAge = s.fueling.lastAge) (clock : f.clockCut = s.fueling.clockCut) :
    Supervised (deriveFueling c (s.setFueling f)) :=
  deriveFueling_supervised hs (setFueling_fuelOnly s f) speed sync age clock
    (fun stopped => by rw [State.setFueling_running, hrun] at stopped; cases stopped)

theorem swapTakesEffect_supervised {s : State} (g : Byte) (b : Bool) (hs : Supervised s) :
    Supervised (swapTakesEffect g b s) := by
  rw [supervised_iff_informed, (swapTakesEffect_tracker g b s).1]
  exact swapTakesEffect_informed g b (supervised_iff_informed.mp hs)

theorem copyPlan_supervised (c : Cylinder) {s : State} (hs : Supervised s) : Supervised (copyPlan c s) := by
  have staged (es : List PlanEntry) : Supervised (s.setStore (s.store.stage c es)) := by
    refine SameSupervision.supervised (s := s) ⟨rfl, ?_, rfl, rfl⟩ rfl rfl hs
    simp only [State.setStore_store, Store.stage]
    cases otherBank s.store.active <;> rfl
  unfold copyPlan
  exact ite_keeps (P := Supervised) (staged _) ((raise_quiet _ _ _ _ _).supervised (staged _))

theorem ownWritePlan_supervised (p : List Byte) {s : State} (hs : Supervised s) :
    Supervised (ownWritePlan p s).state := by
  unfold ownWritePlan
  split
  · exact hs
  · split
    · exact hs
    · exact hs
    · refine SameSupervision.supervised (s := s) ⟨rfl, ?_, rfl, rfl⟩ rfl rfl hs
      simp only [answerOk_state, State.setStore_store, Store.stage]
      cases otherBank s.store.active <;> rfl

theorem ownCopyActive_supervised (p : List Byte) {s : State} (hs : Supervised s) :
    Supervised (ownCopyActive p s).state := by
  refine withLength_keeps hs (answer_ite_keeps hs ?_)
  rw [answerOk_state]
  exact List.foldlRecOn allCylinders _ hs (fun _ hu c _ => copyPlan_supervised c hu)

/-- ENTER_STANDBY is accepted where the part is not armed: a supervised DISARMED state comes of nothing else. -/
theorem armed_of_disarmed {s : State} (hs : Supervised s) (state : s.fueling.state = .disarmed) :
    s.fueling.armed = false := by
  rw [hs.derived] at state
  unfold derivedState at state
  split at state
  · simpa using ‹(!s.fueling.armed) = true›
  · repeat' split at state
    all_goals cases state

theorem ownEnterStandby_supervised (p : List Byte) {s : State} (hs : Supervised s) :
    Supervised (ownEnterStandby p s).state := by
  refine withLength_keeps hs ?_
  dsimp only
  split
  · exact hs
  · rename_i passed
    have state : s.fueling.state = .disarmed := by
      by_contra h
      refine passed ?_
      simp only [standbyFailures, bit, bne_iff_ne, ne_eq, h, not_false_eq_true, if_true]
      omega
    have armed := armed_of_disarmed hs state
    have quiet := (abortByStandby_quiet .a s).trans (abortByStandby_quiet .b _)
    have ended := quiet.supervised hs
    have clock : (abortByStandby .b (abortByStandby .a s)).control.clock = s.control.clock := by rw [quiet.control]
    have left {c : Control} (hc : c.clock = s.control.clock) :
        Supervised ((quietLink (abortByStandby .b (abortByStandby .a s))).setControl c) := by
      refine supervised_of_disarmed (quiet.fueling ▸ armed) (quiet.fueling ▸ state) ended.speed ended.sync ended.age ?_
      rw [State.setControl_control, hc, ← clock]
      exact ended.clock
    exact answer_ite_keeps (left clock) (left clock)

theorem ownSoftReset_supervised (p : List Byte) {s : State} (hs : Supervised s) :
    Supervised (ownSoftReset p s).state := by
  have reset (u : State) : Supervised (softValues u) := supervised_of_disarmed rfl rfl rfl rfl rfl rfl
  exact withLength_keeps hs ((((raise_quiet _ _ _ _ _).trans (judgeLock_quiet .a _)).trans (judgeLock_quiet .b _)).supervised
    (reset _))

/-- A part of the state that the supervisor does not answer for has changed. -/
theorem owner_supervised (c : Command) (p : List Byte) {s : State} (hrun : s.running = true) (hs : Supervised s) :
    Supervised (owner c p s).state := by
  have same {t : State} (h : SameSupervision s t) (hv : t.tracker.speed = s.tracker.speed)
      (hy : t.tracker.sync = s.tracker.sync) : Supervised t := h.supervised hv hy hs
  cases c with
  | nop | ident | readAngle | readStatus => exact withLength_keeps hs hs
  | setWheel | setCam =>
    refine withLength_keeps hs (answer_ite_keeps hs ?_)
    split
    · exact hs
    · exact setTracker_supervised rfl rfl hs
  | setRing =>
    show Supervised (ownSetRing p s).state
    unfold ownSetRing
    split
    · exact hs
    · split
      · exact hs
      · split
        · exact hs
        · exact same ⟨rfl, rfl, rfl, rfl⟩ rfl rfl
  | setLimits =>
    refine withLength_keeps hs ?_
    dsimp only
    split
    · exact hs
    · exact (Quiet.foldl (fun u c => separationElapses_quiet c u) _ _).supervised
        (same (t := { s with queue := { s.queue with limits := limitsOf p } }) ⟨rfl, rfl, rfl, rfl⟩ rfl rfl)
  | setFueling => exact ownSetFueling_supervised p hrun hs
  | setLimp =>
    show Supervised (ownSetLimp p s).state
    unfold ownSetLimp
    split
    · exact hs
    · exact same ⟨rfl, rfl, rfl, rfl⟩ rfl rfl
  | writePlan => exact ownWritePlan_supervised p hs
  | copyActive => exact ownCopyActive_supervised p hs
  | swap =>
    exact withLength_keeps hs (answer_ite_keeps hs (answer_ite_keeps (swapTakesEffect_supervised _ _ hs)
      (same ⟨rfl, rfl, rfl, rfl⟩ rfl rfl)))
  | cancelSwap =>
    refine withLength_keeps hs ?_
    dsimp only
    split
    · exact hs
    · exact same ⟨rfl, rfl, rfl, rfl⟩ rfl rfl
  | readPlan => exact withLength_keeps hs (answer_ite_keeps hs (by split <;> exact hs))
  | setCylMode | clearMask =>
    refine withLength_keeps hs ?_
    dsimp only
    split
    all_goals first | exact hs | exact (setCyl_quiet s _ _).supervised hs
  | flushCyl =>
    refine withLength_keeps hs ?_
    dsimp only
    split
    · exact hs
    · exact answer_ite_keeps hs (answer_ite_keeps (((dropWhere_quiet _ _ s).trans (setCyl_quiet _ _ _)).supervised hs)
        ((dropWhere_quiet _ _ s).supervised hs))
  | arm | disarm => exact withLength_keeps hs (switch_supervised _ hrun hs rfl rfl rfl rfl)
  | fuelCut => exact withLength_keeps hs (answer_ite_keeps hs (switch_supervised _ hrun hs rfl rfl rfl rfl))
  | releaseBank =>
    refine withLength_keeps hs ?_
    dsimp only
    split
    · exact hs
    · exact answer_ite_keeps hs (answer_ite_keeps hs (((setDrive_quiet s _ _).trans (auction_quiet _ _)).supervised hs))
  | readShadow =>
    refine withLength_keeps hs ?_
    split
    · exact hs
    · split <;> exact hs
  | readMarks => exact withLength_keeps hs (same ⟨rfl, rfl, rfl, rfl⟩ rfl rfl)
  | readCounters =>
    exact withLength_keeps hs (answer_ite_keeps hs (answer_ite_keeps (same ⟨rfl, rfl, rfl, rfl⟩ rfl rfl) hs))
  | readFault => exact withLength_keeps hs (by split <;> exact hs)
  | clearFault | setNoticeMask => exact withLength_keeps hs (same ⟨rfl, rfl, rfl, rfl⟩ rfl rfl)
  | fetchNotices => exact withLength_keeps hs (answer_ite_keeps hs (same ⟨rfl, rfl, rfl, rfl⟩ rfl rfl))
  | enterStandby => exact ownEnterStandby_supervised p hs
  | setWake =>
    refine withLength_keeps hs ?_
    dsimp only
    split
    · exact hs
    · exact answer_ite_keeps hs (setControl_supervised rfl rfl hs)
  | softReset => exact ownSoftReset_supervised p hs

/-! ### The step -/

/-- A frame command keeps what its owner keeps in RUN, and what is blind to the link: outside RUN it does nothing. -/
theorem carryOut_keeps {P : State → Prop} {tag : Byte} {c : Command} {p : List Byte} {s : State} (hs : P s)
    (howner : s.running = true → P (owner c p s).state) (hlink : ∀ u l, l.rx = u.link.rx → P u → P (u.setLink l)) :
    P (carryOut tag p (owner c) s) := by
  unfold carryOut
  split
  · exact hlink (owner c p s).state _ rfl (howner ‹_›)
  · exact hs

/-- A release of CS_N keeps what every frame command and every change of the link keep. -/
theorem released_keeps {P : State → Prop} (mosi : List Bool) {s : State} (hs : P s)
    (hlink : ∀ u l, (l.rx = u.link.rx ∨ l.rx = []) → P u → P (u.setLink l))
    (hcarry : ∀ tag c p u, P u → P (carryOut tag p (owner c) u)) : P (released mosi s) := by
  have closed : P (closeTransaction s) := hlink _ _ (.inr rfl) hs
  have turned {u : State} (hu : P u) : P (startTurnaround u) := hlink _ _ (.inl rfl) hu
  have settled {u : State} (v : FrameVerdict) (n : Nat) (hu : P u) : P (settleFrame v n u) := by
    have replied (st : Status) (g : Byte) (q : List Byte) : P (setReply st g q u) := hlink _ _ (.inl rfl) hu
    cases v with
    | badLength => exact replied _ _ _
    | badCrc => exact replied _ _ _
    | unknownKind kind tag => exact hlink _ _ (.inl rfl) (replied _ _ _)
    | good c tag payload => exact hcarry tag c payload u hu
  unfold released
  split
  · exact ite_keeps (settled _ _ (turned closed)) closed
  · exact ite_keeps (turned closed) closed
  · exact closed
  · exact closed
  · exact ite_keeps (turned hs) hs

theorem carryOut_supervised (tag : Byte) (c : Command) (p : List Byte) {s : State} (hs : Supervised s) :
    Supervised (carryOut tag p (owner c) s) :=
  carryOut_keeps hs (fun hrun => owner_supervised c p hrun hs) (fun _ l _ hu => setLink_supervised l hu)

theorem exec_event_supervised {i : Instr} {s t : State} (hi : i.frame? = none) (hs : Supervised s)
    (he : exec i s = .next t) : Supervised t := by
  have quietly {c : Prop} [Decidable c] {u : State} (h : Quiet s u) : Supervised (if c then u else s) :=
    ite_keeps (h.supervised hs) hs
  cases i with
  | csNFall => cases he; exact ite_keeps hs (fallJudged_supervised hs)
  | csNRelease mosi =>
    cases he
    exact released_keeps mosi hs (fun _ l _ hu => setLink_supervised l hu)
      (fun tag c p _ hu => carryOut_supervised tag c p hu)
  | turnaroundExpiry => cases he; exact ite_keeps (turnaroundExpires_supervised hs) hs
  | resetNLow => cases he; exact heldInReset_supervised s
  | resetNRise =>
    cases he
    exact (raise_quiet _ _ _ _ _).supervised
      (SameSupervision.supervised (s := heldInReset s) ⟨rfl, rfl, rfl, rfl⟩ rfl rfl (heldInReset_supervised s))
  | warmupEnd =>
    cases he
    split
    · rename_i h
      simp only [Bool.and_eq_true, beq_iff_eq] at h
      exact endWarmup_supervised h.1 hs
    · exact hs
  | wakeLevelRise high =>
    cases he
    exact wakeBy_supervised _ _ (SameSupervision.supervised (s := s) ⟨rfl, rfl, rfl, rfl⟩ rfl rfl hs)
  | refclkCycle ps => cases he; exact ite_keeps (ite_keeps (countGood_supervised hs) (countBad_supervised hs)) hs
  | refclkMissing => cases he; exact ite_keeps (countBad_supervised hs) hs
  | crankActiveEdge => cases he; exact ite_keeps (activeEdge_supervised _ hs) (wakeBy_supervised _ _ hs)
  | crankTrailingEdge => cases he; exact ite_keeps (trailingEdge_supervised _ hs) (wakeBy_supervised _ _ hs)
  | crankStall => cases he; exact ite_keeps (crankStalls_supervised _ hs) hs
  | camEdge => cases he; exact ite_keeps (camEdgeAt_supervised _ hs) hs
  | camStall => cases he; exact ite_keeps (camStalls_supervised hs) hs
  | startTimerExpiry id => cases he; exact quietly (startTimerExpires_quiet id s)
  | latenessExpiry id => cases he; exact quietly (lateness_quiet id s)
  | peakRise x => cases he; exact quietly (peakRises_quiet x s)
  | peakTimeoutAbort x => cases he; exact quietly (peakExpires_quiet x s)
  | durationEnd x => cases he; exact quietly (durationEnds_quiet x s)
  | shortAssertion x asserted =>
    cases he
    have level : Supervised (s.setShort x asserted) := by
      cases x <;> exact SameSupervision.supervised (s := s) ⟨rfl, rfl, rfl, rfl⟩ rfl rfl hs
    exact ite_keeps ((shortAsserted_quiet x _).supervised level) level
  | rechargeComplete x => cases he; exact quietly (recharged_quiet x s)
  | separationElapse c => cases he; exact quietly (separationElapses_quiet c s)
  | lastEndInvalid c => cases he; exact quietly (lastEndExpires_quiet c s)
  | _ => cases hi

/-- What the idle step keeps, and every event and every frame command keep, every step keeps. -/
theorem step_keeps {P : State → Prop} {s t : State} (hstep : step s = .next t) (hidle : P (idle s))
    (hpending : ∀ rest, P { s with pending := rest })
    (hframe : ∀ tag c p u, P u → P (carryOut tag p (owner c) u))
    (hevent : ∀ i u v, i.frame? = none → P u → exec i u = .next v → P v) : P t := by
  unfold step at hstep
  split at hstep
  next =>
    cases hstep
    exact hidle
  next i rest _ =>
    cases hi : i.frame? with
    | none => exact hevent i _ t hi (hpending rest) hstep
    | some f =>
      obtain ⟨c, tag, p⟩ := f
      rw [exec_of_frame hi] at hstep
      cases hstep
      exact hframe tag c p _ (hpending rest)

/-- Settles O56: every hand-over brings the supervisor up to date with what has changed, and no other operation changes
what it answers for. -/
theorem everyStepKeepsTheFuelingStateDerived : Obligations.EveryStepKeepsTheFuelingStateDerived := fun s _ hs hstep =>
  step_keeps hstep (idle_supervised hs)
    (fun _ => SameSupervision.supervised (s := s) ⟨rfl, rfl, rfl, rfl⟩ rfl rfl hs)
    (fun tag c p _ hu => carryOut_supervised tag c p hu) (fun _ _ _ hi hu he => exec_event_supervised hi hu he)

end Sys2Proof.Machine

/-! PROOFS. What the requests can undergo. Every operation of the Pulse Queue, the Drive Arbiter, the pulses and the
planner is a chain of small changes of the requests and the outputs; an invariant is then proved once for each small
change. -/

namespace Sys2Proof.Machine

open Sys2Proof.Safety

/-! ### What a small change leaves alone -/

/-- The tracker's part of `Timely`, in RUN. -/
structure TrackerTimely (now : Time) (t : Tracker) : Prop where
  periods : ∀ h, h = t.history ∨ h = t.seek.history →
    (∀ p, h.current = some p → p ≤ 4000000) ∧ (∀ p, h.predicted = some p → p ≤ 8000000)
  camStall : t.cam.stallTime ≤ 16000000
  camPeriod : ∀ c, t.camHistory.period = some c → c ≤ 16000000
  camTimer : t.camTimer = t.camHistory.lastEdge
  camEdge : ∀ e, t.camHistory.lastEdge = some e → elapsed e now ≤ t.cam.stallTime

/-- The lateness limits of R87, in tu. -/
def LimitsTimely (l : Limits) : Prop := l.latenessMain ≤ 8000 ∧ l.latenessOther ≤ 8000

/-- `t` differs from `s` in nothing that the invariants read, the requests and the outputs aside. -/
structure Beside (s t : State) : Prop where
  tracker : t.tracker = s.tracker
  fuelState : t.fueling.state = s.fueling.state
  mode : t.control.mode = s.control.mode
  timebase : t.control.timebase = s.control.timebase
  wakeSource : t.control.wakeSource = s.control.wakeSource
  limits : LimitsTimely s.queue.limits → LimitsTimely t.queue.limits
  failures : ∀ c, (s.cyl c).failures ≤ 15 → (t.cyl c).failures ≤ 15
  planned : ∀ c, (s.cyl c).cyclePlanned = true → (t.cyl c).cyclePlanned = true
  ring : s.table.ring.Pairwise (fun a b => a.cylinder ≠ b.cylinder) →
    t.table.ring.Pairwise (fun a b => a.cylinder ≠ b.cylinder)
  plans : PlansInOrder s → PlansInOrder t
  notices : s.notices.Sound → t.notices.Sound
  depth : s.queue.requests.length ≤ 16 ∧ s.queue.depthMark ≤ 16 → t.queue.requests.length ≤ 16 ∧ t.queue.depthMark ≤ 16
  age : s.store.age ≤ 255 → t.store.age ≤ 255
  received : s.link.rx.length ≤ 64 → t.link.rx.length ≤ 64
  reference : s.control.refCount ≤ 1024 → t.control.refCount ≤ 1024

theorem Beside.refl (s : State) : Beside s s :=
  ⟨rfl, rfl, rfl, rfl, rfl, id, fun _ => id, fun _ => id, id, id, id, id, id, id, id⟩

theorem Beside.trans {s t u : State} (h : Beside s t) (g : Beside t u) : Beside s u where
  tracker := g.tracker.trans h.tracker
  fuelState := g.fuelState.trans h.fuelState
  mode := g.mode.trans h.mode
  timebase := g.timebase.trans h.timebase
  wakeSource := g.wakeSource.trans h.wakeSource
  limits := g.limits ∘ h.limits
  failures c := g.failures c ∘ h.failures c
  planned c := g.planned c ∘ h.planned c
  ring := g.ring ∘ h.ring
  plans := g.plans ∘ h.plans
  notices := g.notices ∘ h.notices
  depth := g.depth ∘ h.depth
  age := g.age ∘ h.age
  received := g.received ∘ h.received
  reference := g.reference ∘ h.reference

theorem Beside.now {s t : State} (h : Beside s t) : t.now = s.now := h.timebase

theorem Beside.running {s t : State} (h : Beside s t) : t.running = s.running := by
  rw [State.running, State.running, h.mode]

theorem Beside.of_quiet {s t : State} (q : Quiet s t) (failures : ∀ c, (s.cyl c).failures ≤ 15 → (t.cyl c).failures ≤ 15)
    (planned : ∀ c, (s.cyl c).cyclePlanned = true → (t.cyl c).cyclePlanned = true)
    (notices : s.notices.Sound → t.notices.Sound)
    (depth : s.queue.requests.length ≤ 16 ∧ s.queue.depthMark ≤ 16 →
      t.queue.requests.length ≤ 16 ∧ t.queue.depthMark ≤ 16) : Beside s t where
  tracker := q.tracker
  fuelState := by rw [q.fueling]
  mode := by rw [q.control]
  timebase := by rw [q.control]
  wakeSource := by rw [q.control]
  limits := by rw [q.limits]; exact id
  failures := failures
  planned := planned
  ring := by rw [q.ring]; exact id
  plans := q.samePlans.plansInOrder
  notices := notices
  depth := depth
  age := by rw [q.store]; exact id
  received := by rw [q.link]; exact id
  reference := by rw [q.control]; exact id

theorem raiseAt_beside (st : Time) (k : NoticeKind) (u : Subject) (b : Option Bank) (d : Half) (s : State) :
    Beside s (raiseAt st k u b d s) :=
  .of_quiet (raiseAt_quiet _ _ _ _ _ _) (fun _ => id) (fun _ => id) (raiseAt_sound _ _ _ _ _ _) id

theorem noteDrop_beside (q : DropReason) (r : Request) (s : State) : Beside s (noteDrop q r s) :=
  .of_quiet (noteDrop_quiet q r s) (fun _ => id) (fun _ => id) (noteDrop_sound q r s) id

theorem setDrive_beside (s : State) (x : Bank) (d : DriveBank) : Beside s (s.setDrive x d) := by
  refine .of_quiet (setDrive_quiet s x d) ?_ ?_ ?_ ?_ <;> simp

theorem setSel_beside (s : State) (l : Eight Bool) : Beside s { s with sel := l } :=
  .of_quiet (setSel_quiet s l) (fun _ => id) (fun _ => id) id id

/-- A cylinder's record replaced by one that keeps the bound of its failures and its cycle-planned flag. -/
theorem setCyl_beside {s : State} {c : Cylinder} {k : CylState} (hf : (s.cyl c).failures ≤ 15 → k.failures ≤ 15)
    (hp : (s.cyl c).cyclePlanned = true → k.cyclePlanned = true) : Beside s (s.setCyl c k) := by
  refine .of_quiet (setCyl_quiet s c k) (fun d => ?_) (fun d => ?_) id id
  all_goals
    by_cases h : d = c
    · subst h; simpa
    · rw [State.cyl_setCyl_other s k h]; exact id

/-- The requests replaced by no more of them. -/
theorem setRequests_beside {s : State} {rs : List Request} (h : rs.length ≤ s.queue.requests.length) :
    Beside s (s.setRequests rs) :=
  .of_quiet (setRequests_quiet s rs) (fun _ => id) (fun _ => id) id (fun ⟨a, b⟩ => ⟨h.trans a, b⟩)

theorem setNotices_beside {s : State} {u : NoticeUnit} (h : s.notices.Sound → u.Sound) : Beside s (s.setNotices u) :=
  .of_quiet (s := s) ⟨rfl, rfl, rfl, rfl, rfl, rfl, rfl, rfl, rfl, rfl, rfl, rfl, rfl⟩ (fun _ => id) (fun _ => id) h id

/-! ### The outputs -/

/-- The outputs, and whether a pulse record stands, are the same. -/
structure SameOutputs (s t : State) : Prop where
  boost : ∀ x, (t.drive x).boostOut = (s.drive x).boostOut
  hold : ∀ x, (t.drive x).holdOut = (s.drive x).holdOut
  pulse : ∀ x, (t.drive x).pulse.isSome = (s.drive x).pulse.isSome
  sel : t.sel = s.sel

theorem SameOutputs.of_eq {s t : State} (hd : ∀ x, t.drive x = s.drive x) (hs : t.sel = s.sel) : SameOutputs s t :=
  ⟨fun x => by rw [hd], fun x => by rw [hd], fun x => by rw [hd], hs⟩

theorem SameOutputs.refl (s : State) : SameOutputs s s := .of_eq (fun _ => rfl) rfl

theorem SameOutputs.trans {s t u : State} (h : SameOutputs s t) (g : SameOutputs t u) : SameOutputs s u :=
  ⟨fun x => (g.boost x).trans (h.boost x), fun x => (g.hold x).trans (h.hold x), fun x => (g.pulse x).trans (h.pulse x),
   g.sel.trans h.sel⟩

/-- A drive bank replaced by one with the same outputs. -/
theorem setDrive_sameOutputs {s : State} {x : Bank} {d : DriveBank} (hb : d.boostOut = (s.drive x).boostOut)
    (hh : d.holdOut = (s.drive x).holdOut) (hp : d.pulse.isSome = (s.drive x).pulse.isSome) :
    SameOutputs s (s.setDrive x d) := by
  refine ⟨fun y => ?_, fun y => ?_, fun y => ?_, by simp⟩
  all_goals
    by_cases h : y = x
    · subst h; simpa
    · rw [State.drive_setDrive_other s d h]

/-- The outputs of one bank and one cylinder's SEL are set; the other bank's outputs stand. -/
structure OutputsSet (x : Bank) (boost hold pulse : Bool) (sel : Eight Bool) (s t : State) : Prop where
  boost : (t.drive x).boostOut = boost
  hold : (t.drive x).holdOut = hold
  pulse : (t.drive x).pulse.isSome = pulse
  other : ∀ y, y ≠ x → (t.drive y).boostOut = (s.drive y).boostOut ∧ (t.drive y).holdOut = (s.drive y).holdOut ∧
    (t.drive y).pulse.isSome = (s.drive y).pulse.isSome
  sel : t.sel = sel

theorem OutputsSet.sameOutputs {x : Bank} {b h p : Bool} {l : Eight Bool} {s t u : State} (g : OutputsSet x b h p l s t)
    (k : SameOutputs t u) : OutputsSet x b h p l s u where
  boost := (k.boost x).trans g.boost
  hold := (k.hold x).trans g.hold
  pulse := (k.pulse x).trans g.pulse
  other y hy := by rw [k.boost, k.hold, k.pulse]; exact g.other y hy
  sel := k.sel.trans g.sel

theorem SameOutputs.outputsSet {x : Bank} {b h p : Bool} {l : Eight Bool} {s t u : State} (k : SameOutputs s t)
    (g : OutputsSet x b h p l t u) : OutputsSet x b h p l s u where
  boost := g.boost
  hold := g.hold
  pulse := g.pulse
  other y hy := by rw [← k.boost, ← k.hold, ← k.pulse]; exact g.other y hy
  sel := g.sel

theorem setDrive_outputsSet (s : State) (x : Bank) (d : DriveBank) (l : Eight Bool) :
    OutputsSet x d.boostOut d.holdOut d.pulse.isSome l s { s.setDrive x d with sel := l } := by
  refine ⟨?_, ?_, ?_, fun y hy => ?_, rfl⟩
  all_goals
    cases x
    all_goals first | rfl | (cases y <;> first | exact absurd rfl hy | exact ⟨rfl, rfl, rfl⟩)

theorem outputsOff_outputsSet (x : Bank) (c : Cylinder) (s : State) :
    OutputsSet x false false false (s.sel.set c false) s (outputsOff x c s) := by
  have h := setDrive_outputsSet s x { s.drive x with boostOut := false, holdOut := false, pulse := none }
    (s.sel.set c false)
  simpa [outputsOff] using h

/-! ### Small changes -/

/-- What entering the queue asks of a request: it does not drive, the fueling state injects, its lateness limit is one
in force, and where it is ARMED its start is a bounded delay away. -/
structure Enters (s : State) (r : Request) : Prop where
  injecting : injecting s.fueling.state = true
  lateness : r.lateness = s.queue.limits.latenessMain ∨ r.lateness = s.queue.limits.latenessOther
  start : r.state = .planned ∨ r.state = .armed ∧
    (TrackerTimely s.now s.tracker → ∃ d < 2 ^ 31, r.scheduledStart = some (later s.now d))

/-- What becoming DUE at a time asks of a request: it waits for its start, and the time is the present one or the
request's own start that has been reached. -/
structure BecomesDue (s : State) (r : Request) (t : Time) : Prop where
  waits : r.state = .planned ∨ r.state = .armed
  time : t = s.now ∨ r.state = .armed ∧ r.scheduledStart = some t ∧ reached t s.now = true

/-- A tooth event of the present: what anchoring a request on it asks. -/
structure AtPresent (s : State) (e : ToothEvent) : Prop where
  time : e.time = s.now
  spanNext : e.spanNext ≤ 3
  predicted : TrackerTimely s.now s.tracker → e.predicted ≤ 8000000

/-- A waiting request: DUE, its lateness timer set. -/
def Request.waits (r : Request) : Request := { r with lateExpiry := some (later (r.dueTime.getD 0) r.lateness) }

/-- One small change of the requests, with the outputs that follow it. `enters` says whether a request may enter,
`dues` whether one may become DUE. -/
inductive Change (enters dues : Prop) (s t : State) : Prop
  | none (requests : t.queue.requests = s.queue.requests) (outputs : SameOutputs s t)
  | drop (r : Request) (idle : driving r.state = false) (requests : t.queue.requests = s.queue.requests.erase r)
      (outputs : SameOutputs s t)
  | waits (r : Request) (due : r.state = .due) (requests : t.queue.requests = (moveRequest r r.waits s).queue.requests)
      (outputs : SameOutputs s t)
  | due (may : dues) (r : Request) (time : Time) (cause : DueCause) (becomes : BecomesDue s r time)
      (requests : t.queue.requests = (moveRequest r (r.madeDue time cause) s).queue.requests) (outputs : SameOutputs s t)
  | enter (may : enters) (r : Request) (enters : Enters s r)
      (requests : t.queue.requests = insertRequest r s.queue.requests) (outputs : SameOutputs s t)
  | tooth (e : ToothEvent) (present : AtPresent s e)
      (requests : t.queue.requests = s.queue.requests.map (fun r => r.atTooth s.tracker.wheel.wheel e))
      (outputs : SameOutputs s t)
  | grant (x : Bank) (r : Request) (candidate : r ∈ candidates x s)
      (requests : t.queue.requests = insertRequest { r with state := .boost, lateExpiry := Option.none }
        (s.queue.requests.erase r))
      (outputs : OutputsSet x true (s.drive x).holdOut true (s.sel.set r.cylinder true) s t)
  | ended (x : Bank) (o : Request) (present : o ∈ s.queue.requests) (bank : o.bank = x) (drives : driving o.state = true)
      (requests : t.queue.requests = s.queue.requests.erase o)
      (outputs : OutputsSet x false false false (s.sel.set o.cylinder false) s t)
  | peak (x : Bank) (o : Request) (present : o ∈ s.queue.requests) (bank : o.bank = x) (boost : o.state = .boost)
      (requests : t.queue.requests = s.queue.requests.map (fun r => if r = o then { r with state := .hold } else r))
      (outputs : OutputsSet x false true (s.drive x).pulse.isSome s.sel s t)

/-- A small change that leaves everything else alone. -/
def Atom (enters dues : Prop) (s t : State) : Prop := Beside s t ∧ Change enters dues s t

/-- A row of small changes. -/
def Chain (enters dues : Prop) : State → State → Prop := Relation.ReflTransGen (Atom enters dues)

variable {e d : Prop}

theorem Chain.refl (s : State) : Chain e d s s := Relation.ReflTransGen.refl

theorem Chain.trans {s t u : State} (h : Chain e d s t) (g : Chain e d t u) : Chain e d s u :=
  Relation.ReflTransGen.trans h g

theorem Chain.after {s t u : State} (g : Chain e d t u) (h : Chain e d s t) : Chain e d s u := h.trans g

theorem Chain.single {s t : State} (b : Beside s t) (c : Change e d s t) : Chain e d s t :=
  Relation.ReflTransGen.single ⟨b, c⟩

theorem Change.mono {e' d' : Prop} {s t : State} (he : e → e') (hd : d → d') (h : Change e d s t) : Change e' d' s t := by
  cases h with
  | none a b => exact .none a b
  | drop r a b c => exact .drop r a b c
  | waits r a b c => exact .waits r a b c
  | due m r t c a b o => exact .due (hd m) r t c a b o
  | enter m r a b c => exact .enter (he m) r a b c
  | tooth e a b c => exact .tooth e a b c
  | grant x r a b c => exact .grant x r a b c
  | ended x o a b c f g => exact .ended x o a b c f g
  | peak x o a b c f g => exact .peak x o a b c f g

theorem Chain.mono {e' d' : Prop} {s t : State} (he : e → e') (hd : d → d') (h : Chain e d s t) : Chain e' d' s t :=
  Relation.ReflTransGen.mono (r := Atom e d) (fun _ _ a => ⟨a.1, a.2.mono he hd⟩) _ _ h

theorem Chain.ite {s t u : State} {c : Prop} [Decidable c] (h : Chain e d s t) (g : Chain e d s u) :
    Chain e d s (if c then t else u) := by split <;> assumption

theorem Chain.foldl {α : Type} {f : State → α → State} (hf : ∀ s a, Chain e d s (f s a)) (l : List α) (s : State) :
    Chain e d s (l.foldl f s) := by
  induction l generalizing s with
  | nil => exact Chain.refl s
  | cons a l ih => exact (hf s a).trans (ih (f s a))

theorem Chain.beside {s t : State} (h : Chain e d s t) : Beside s t := by
  induction h with
  | refl => exact Beside.refl s
  | tail _ step ih => exact ih.trans step.1

/-- A change of neither the requests nor the outputs. -/
theorem Chain.aside {s t : State} (b : Beside s t) (hr : t.queue.requests = s.queue.requests) (ho : SameOutputs s t) :
    Chain e d s t := .single b (.none hr ho)

/-! ### Changes of neither the requests nor the outputs -/

theorem raiseAt_chain (st : Time) (k : NoticeKind) (u : Subject) (b : Option Bank) (h : Half) (s : State) :
    Chain e d s (raiseAt st k u b h s) := .aside (raiseAt_beside _ _ _ _ _ _) rfl (.of_eq (fun x => by simp) rfl)

theorem raise_chain (k : NoticeKind) (u : Subject) (b : Option Bank) (h : Half) (s : State) :
    Chain e d s (raise k u b h s) := raiseAt_chain _ _ _ _ _ _

theorem noteDrop_chain (q : DropReason) (r : Request) (s : State) : Chain e d s (noteDrop q r s) :=
  .aside (noteDrop_beside q r s) rfl (.of_eq (fun x => by simp) rfl)

/-- Counting changes the Notice Unit alone, and not its queue. -/
theorem setNotices_chain {s : State} {u : NoticeUnit} (h : s.notices.Sound → u.Sound) : Chain e d s (s.setNotices u) :=
  .aside (setNotices_beside h) rfl (.of_eq (fun x => by simp) rfl)

theorem setCyl_chain {s : State} {c : Cylinder} {k : CylState} (hf : (s.cyl c).failures ≤ 15 → k.failures ≤ 15)
    (hp : (s.cyl c).cyclePlanned = true → k.cyclePlanned = true) : Chain e d s (s.setCyl c k) :=
  .aside (setCyl_beside hf hp) rfl (.of_eq (fun x => by simp) rfl)

theorem setDrive_chain {s : State} {x : Bank} {b : DriveBank} (hb : b.boostOut = (s.drive x).boostOut)
    (hh : b.holdOut = (s.drive x).holdOut) (hp : b.pulse.isSome = (s.drive x).pulse.isSome) :
    Chain e d s (s.setDrive x b) := .aside (setDrive_beside s x b) (by simp) (setDrive_sameOutputs hb hh hp)

theorem startRecharge_sameOutputs (x : Bank) (t : Time) (s : State) : SameOutputs s (startRecharge x t s) :=
  setDrive_sameOutputs rfl rfl rfl

theorem peakSuccess_chain (c : Cylinder) (s : State) : Chain e d s (peakSuccess c s) :=
  setCyl_chain (fun _ => Nat.zero_le _) id

theorem reportEnd_chain (c : Cylinder) (t : Time) (n : Nat) (s : State) : Chain e d s (reportEnd c t n s) := by
  unfold reportEnd
  split
  · exact Chain.trans (t := s.setCyl c { s.cyl c with lastEnd := some t, flushPending := false }) (setCyl_chain id id)
      (raise_chain _ _ _ _ _)
  · exact setCyl_chain id id

theorem peakFailure_chain (c : Cylinder) (x : Bank) (s : State) : Chain e d s (peakFailure c x s) := by
  have bounded : (satInc 15 (s.cyl c).failures) ≤ 15 := Nat.min_le_left _ _
  unfold peakFailure
  dsimp only
  split
  · exact Chain.trans (t := s.setCyl c { s.cyl c with failures := satInc 15 (s.cyl c).failures, masked := true })
      (setCyl_chain (fun _ => bounded) id) (raise_chain _ _ _ _ _)
  · exact setCyl_chain (fun _ => bounded) id

theorem nameCylinder_chain (c : Cylinder) (s : State) : Chain e d s (nameCylinder c s) :=
  setCyl_chain id (fun _ => rfl)

theorem parityFault_chain (c : Cylinder) (a b : Nat) (s : State) : Chain e d s (parityFault c a b s) :=
  raise_chain _ _ _ _ _

/-! ### Drops -/

theorem removeRequest_beside (r : Request) (s : State) : Beside s (removeRequest r s) :=
  setRequests_beside (List.length_erase_le)

theorem removeRequest_chain {r : Request} (h : driving r.state = false) (s : State) : Chain e d s (removeRequest r s) :=
  .single (removeRequest_beside r s) (.drop r h rfl (.of_eq (fun x => by simp [removeRequest]) rfl))

theorem dropRequest_chain {r : Request} (q : DropReason) (h : driving r.state = false) (s : State) :
    Chain e d s (dropRequest q r s) := (removeRequest_chain h s).trans (noteDrop_chain q r _)

/-- A drop order that reaches no driving request. -/
theorem dropWhere_chain {p : Request → Bool} (q : DropReason) (hp : ∀ r, p r = true → driving r.state = false)
    (s : State) : Chain e d s (dropWhere q p s) := by
  have row : ∀ (rs : List Request) (u : State), (∀ r ∈ rs, driving r.state = false) →
      Chain e d u (rs.foldl (fun t r => dropRequest q r t) u) := by
    intro rs
    induction rs with
    | nil => exact fun u _ => Chain.refl u
    | cons r rs ih =>
      intro u h
      rw [List.forall_mem_cons] at h
      exact (dropRequest_chain q h.1 u).trans (ih _ h.2)
  exact row _ s (fun r hr => hp r (List.mem_filter.mp hr).2)

theorem dropNonDriving_chain (q : DropReason) (s : State) : Chain e d s (dropNonDriving q s) :=
  dropWhere_chain q (fun r h => by simpa using h) s

/-! ### Ends of pulses -/

/-- The outputs of an occupant have gone off, and the request has not left yet. -/
structure Ending (x : Bank) (c : Cylinder) (s t : State) : Prop where
  beside : Beside s t
  requests : t.queue.requests = s.queue.requests
  outputs : OutputsSet x false false false (s.sel.set c false) s t

theorem outputsOff_ending (x : Bank) (c : Cylinder) (s : State) : Ending x c s (outputsOff x c s) :=
  ⟨(setDrive_beside s x _).trans (setSel_beside _ _), by simp, outputsOff_outputsSet x c s⟩

theorem Ending.aside {x : Bank} {c : Cylinder} {s t u : State} (h : Ending x c s t) (b : Beside t u)
    (hr : u.queue.requests = t.queue.requests) (ho : SameOutputs t u) : Ending x c s u :=
  ⟨h.beside.trans b, hr.trans h.requests, h.outputs.sameOutputs ho⟩

theorem Ending.startRecharge {x y : Bank} {c : Cylinder} {s t : State} (time : Time) (h : Ending x c s t) :
    Ending x c s (startRecharge y time t) :=
  h.aside (setDrive_beside t y _) (by simp) (startRecharge_sameOutputs y time t)

theorem Ending.rechargeIfBoost {x y : Bank} {c : Cylinder} {s t : State} (r : Request) (time : Time)
    (h : Ending x c s t) : Ending x c s (rechargeIfBoost y r time t) := by
  unfold Machine.rechargeIfBoost
  split
  · exact h.startRecharge time
  · exact h

theorem Ending.raiseAt {x : Bank} {c : Cylinder} {s t : State} (h : Ending x c s t) (st : Time) (k : NoticeKind)
    (u : Subject) (b : Option Bank) (n : Half) : Ending x c s (raiseAt st k u b n t) :=
  h.aside (raiseAt_beside _ _ _ _ _ _) rfl (.of_eq (fun x => by simp) rfl)

@[simp] theorem reportEnd_sel (c : Cylinder) (t : Time) (n : Nat) (s : State) : (reportEnd c t n s).sel = s.sel := by
  unfold reportEnd; split <;> rfl

@[simp] theorem peakFailure_sel (c : Cylinder) (x : Bank) (s : State) : (peakFailure c x s).sel = s.sel := by
  rw [peakFailure_eq]; dsimp only; split <;> rfl

theorem Ending.reportEnd {x : Bank} {c i : Cylinder} {s t : State} (h : Ending x c s t) (time : Time) (n : Nat) :
    Ending x c s (reportEnd i time n t) :=
  h.aside (reportEnd_chain (e := False) (d := False) i time n t).beside (by simp) (.of_eq (fun x => by simp) (by simp))

theorem Ending.peakFailure {x y : Bank} {c i : Cylinder} {s t : State} (h : Ending x c s t) :
    Ending x c s (peakFailure i y t) :=
  h.aside (peakFailure_chain (e := False) (d := False) i y t).beside (by simp) (.of_eq (fun x => by simp) (by simp))

/-- The occupant leaves once its end has been reported. -/
theorem Ending.removed {x : Bank} {o : Request} {s t : State} (h : Ending x o.cylinder s t)
    (ho : occupant x s = some o) : Chain e d s (removeRequest o t) := by
  obtain ⟨present, bank, drives⟩ := occupant_some ho
  have outputs : SameOutputs t (removeRequest o t) := .of_eq (fun x => by simp [removeRequest]) rfl
  refine .single (h.beside.trans (removeRequest_beside o t)) (.ended x o present bank drives ?_ (h.outputs.sameOutputs outputs))
  rw [← h.requests]
  rfl

theorem Ending.dropped {x : Bank} {o : Request} {s t : State} (q : DropReason) (h : Ending x o.cylinder s t)
    (ho : occupant x s = some o) : Chain e d s (dropRequest q o t) := (h.removed ho).trans (noteDrop_chain q o _)

theorem abortBegin_ending (x : Bank) (o : Request) (s : State) : Ending x o.cylinder s (abortBegin x o s) :=
  ((outputsOff_ending x _ s).rechargeIfBoost o _).reportEnd _ _

/-! ### The auction -/

theorem judgeTruncation_chain (x : Bank) (s : State) : Chain e d s (judgeTruncation x s) := by
  unfold judgeTruncation
  split
  · exact Chain.refl s
  · rename_i o ho
    exact (((outputsOff_ending x _ s).reportEnd _ _).removed ho |>.trans (raise_chain _ _ _ _ _)).ite (Chain.refl s)

theorem chooseAmong_mem {t : Tree} {rs : List Request} {r : Request} (h : chooseAmong t rs = some r) : r ∈ rs := by
  have kept : ∀ x ∈ lowestClass rs, x ∈ rs := fun x hx => (List.mem_filter.mp hx).1
  unfold chooseAmong at h
  split at h
  · cases h
  · rename_i hk
    cases h
    exact kept r (by rw [hk]; simp)
  · exact kept r (List.mem_of_find?_eq_some h)

theorem mem_candidates {x : Bank} {s : State} {r : Request} (h : r ∈ candidates x s) :
    bankOpen x s = true ∧ r ∈ waiting x s ∧ cylFree r.cylinder s = true := by
  unfold candidates at h
  split at h
  · exact ⟨‹_›, List.mem_filter.mp h⟩
  · cases h

theorem grant_chain {x : Bank} {r : Request} {s : State} (h : r ∈ candidates x s) : Chain e d s (grant x r s) := by
  obtain ⟨-, hw, -⟩ := mem_candidates h
  have present := (mem_waiting.mp hw).1
  have moved := moveRequest_frame r { r with state := .boost, lateExpiry := none } s
  have requests : (grant x r s).queue.requests =
      insertRequest { r with state := .boost, lateExpiry := none } (s.queue.requests.erase r) := by
    simp [grant, countGrant, moveRequest, present]
  refine .single ?_ (.grant x r h requests ?_)
  · refine .of_quiet (grant_quiet x r s) ?_ ?_ ?_ ?_
    · simp [grant, countGrant, State.cyl, moveRequest, present]
    · simp [grant, countGrant, State.cyl, moveRequest, present]
    · simp [grant, countGrant, moveRequest, present, NoticeUnit.Sound]
    · rw [requests, insertRequest_length, List.length_erase_of_mem present]
      have := List.length_pos_of_mem present
      simp only [grant, countGrant, moveRequest, if_pos present, State.setDrive_queue, State.setRequests_queue]
      omega
  · have set := setDrive_outputsSet (moveRequest r { r with state := .boost, lateExpiry := none } s) x
      { s.drive x with
        charge := .charging none
        tree := (s.drive x).tree.served r.position
        waitMark := max (s.drive x).waitMark (grantWait r s.now)
        boostOut := true
        pulse := some (pulseRecord r s.now s.queue.limits.peakTimeout) } (s.sel.set r.cylinder true)
    have same : SameOutputs s (moveRequest r { r with state := .boost, lateExpiry := none } s) := by
      rw [moved]; exact .of_eq (fun x => by simp) rfl
    have q := moveRequest_quiet r { r with state := .boost, lateExpiry := none } s
    have out := same.outputsSet set
    simp only [grant, countGrant, q.now, q.limits, State.setDrive_sel, same.sel]
    exact out.sameOutputs (.of_eq (fun y => by cases y <;> rfl) rfl)

theorem auction_chain (x : Bank) (s : State) : Chain e d s (auction x s) := by
  unfold auction
  split
  · exact Chain.refl s
  · dsimp only
    split
    · exact judgeTruncation_chain x s
    · rename_i r hr
      exact (judgeTruncation_chain x s).trans (grant_chain (chooseAmong_mem hr))

/-! ### The events of the arbiter and of pulses -/

theorem expireAtOnce_chain {r : Request} (h : driving r.state = false) (s : State) :
    Chain e d s (expireAtOnce r s) := (dropRequest_chain _ h s).ite (Chain.refl s)

theorem moveRequest_beside (r r' : Request) (s : State) : Beside s (moveRequest r r' s) := by
  have length := moveRequest_length r r' s
  have frame := moveRequest_frame r r' s
  rw [frame]
  exact setRequests_beside length.le

theorem moveRequest_sameOutputs (r r' : Request) (s : State) : SameOutputs s (moveRequest r r' s) := by
  rw [moveRequest_frame]
  exact .of_eq (fun x => by simp) rfl

theorem handOver_chain {r : Request} (h : r.state = .due) (s : State) : Chain e d s (handOver r s) := by
  have idle : driving r.waits.state = false := by rw [Request.waits, h]; rfl
  exact ((Chain.single (moveRequest_beside r r.waits s) (.waits r h rfl (moveRequest_sameOutputs r _ s))).trans
    (auction_chain _ _)).trans (expireAtOnce_chain idle _)

theorem captureShadow_chain {r : Request} (h : r.state = .due) (s : State) : Chain e d s (captureShadow r s) := by
  refine (removeRequest_chain (by rw [h]; rfl) s).trans ?_
  exact .aside (.of_quiet (setCaptures_quiet _ _) (fun _ => id) (fun _ => id) id id) rfl
    (.of_eq (fun x => by cases x <;> rfl) rfl)

theorem handOn_chain {r : Request} (h : r.state = .due) (s : State) : Chain e d s (handOn r s) :=
  (captureShadow_chain h s).ite (handOver_chain h s)

theorem lateness_chain (id : RequestId) (s : State) : Chain e d s (lateness id s) := by
  unfold lateness
  split
  · exact Chain.refl s
  · split
    · rename_i hs _
      exact (dropRequest_chain _ (by rw [hs]; rfl) s).ite (Chain.refl s)
    · exact Chain.refl s

theorem recharged_chain (x : Bank) (s : State) : Chain e d s (recharged x s) := by
  unfold recharged
  split
  · exact Chain.ite (Chain.trans (t := s.setDrive x { s.drive x with charge := .ready }) (setDrive_chain rfl rfl rfl)
      (auction_chain x _)) (Chain.refl s)
  · exact Chain.refl s

theorem separationElapses_chain (c : Cylinder) (s : State) : Chain e d s (separationElapses c s) := by
  have one (x : Bank) (u : State) : Chain e d u (auctionFor c x u) := (auction_chain x u).ite (Chain.refl u)
  exact ((one .a s).trans (one .b _)).ite (Chain.refl s)

theorem lastEndExpires_chain (c : Cylinder) (s : State) : Chain e d s (lastEndExpires c s) := by
  unfold lastEndExpires
  split
  · exact Chain.refl s
  · exact Chain.ite (setCyl_chain id id) (Chain.refl s)

theorem peakRises_chain (x : Bank) (s : State) : Chain e d s (peakRises x s) := by
  unfold peakRises
  split
  · exact Chain.refl s
  · rename_i o ho
    obtain ⟨present, bank, -⟩ := occupant_some ho
    split
    · rename_i hb
      have moved : (fun r => if r = o then { o with state := .hold } else r) =
          fun r : Request => if r = o then { r with state := .hold } else r :=
        funext fun r => ite_congr rfl (fun h => by rw [h]) (fun _ => rfl)
      rw [moved]
      refine Chain.trans (.single ?_ (.peak x o present bank hb ?_ ?_)) (peakSuccess_chain _ _)
      · exact ((setDrive_beside s x _).trans (setRequests_beside (by simp))).trans (setDrive_beside _ _ _)
      · simp [startRecharge]
      · have set := setDrive_outputsSet s x { s.drive x with
            boostOut := false, holdOut := true
            pulse := (s.drive x).pulse.map (fun p => { p with peakExpiry := none }) } s.sel
        simp only [Option.isSome_map] at set
        refine (set.sameOutputs ?_).sameOutputs (startRecharge_sameOutputs x _ _)
        exact .of_eq (fun y => by cases x <;> cases y <;> rfl) (by simp)
    · exact Chain.refl s

theorem peakExpires_chain (x : Bank) (s : State) : Chain e d s (peakExpires x s) := by
  unfold peakExpires
  split
  · rename_i o p ho _
    split
    · refine Chain.ite ?_ (Chain.refl s)
      exact Chain.trans (((((outputsOff_ending x _ s).startRecharge _).raiseAt _ _ _ _ _).peakFailure.reportEnd _
        _).dropped _ ho) (auction_chain x _)
    · exact Chain.refl s
  · exact Chain.refl s

theorem durationEnds_chain (x : Bank) (s : State) : Chain e d s (durationEnds x s) := by
  unfold durationEnds
  split
  · rename_i o p ho _
    refine Chain.ite ?_ (Chain.refl s)
    exact Chain.trans ((((outputsOff_ending x _ s).rechargeIfBoost o _).reportEnd _ _).removed ho) (auction_chain x _)
  · exact Chain.refl s

theorem setDrive_occupant (x y : Bank) (b : DriveBank) (s : State) : occupant x (s.setDrive y b) = occupant x s := by
  simp [occupant]

theorem shortAsserted_chain (x : Bank) (s : State) : Chain e d s (shortAsserted x s) := by
  have lock : Chain e d s (s.setDrive x { s.drive x with locked := true }) := setDrive_chain rfl rfl rfl
  refine Chain.ite (Chain.refl s) ((lock.trans ?_).trans (raise_chain _ _ _ _ _))
  cases ho : occupant x s with
  | none => exact Chain.refl _
  | some o => exact (abortBegin_ending x o _).dropped _ (by rw [setDrive_occupant]; exact ho)

theorem abortByStandby_chain (x : Bank) (s : State) : Chain e d s (abortByStandby x s) := by
  unfold abortByStandby
  split
  · exact Chain.refl s
  · rename_i o ho
    exact ((outputsOff_ending x _ s).reportEnd _ _).dropped _ ho

theorem setCyl_sameOutputs (s : State) (c : Cylinder) (k : CylState) : SameOutputs s (s.setCyl c k) :=
  .of_eq (fun x => by simp) rfl

theorem abortBySoftReset_chain (x : Bank) (s : State) : Chain e d s (abortBySoftReset x s) := by
  unfold abortBySoftReset
  split
  · exact Chain.refl s
  · rename_i o ho
    refine Ending.removed (x := x) ?_ ho
    have ended := (outputsOff_ending x o.cylinder s).aside (u := (outputsOff x o.cylinder s).setCyl o.cylinder
      { (outputsOff x o.cylinder s).cyl o.cylinder with
        lastEnd := some (outputsOff x o.cylinder s).now, flushPending := false })
      (setCyl_beside id id) rfl (setCyl_sameOutputs _ _ _)
    exact ended.aside (setNotices_beside (countDrop_sound .aborted _)) rfl (.of_eq (fun x => by simp) rfl)

end Sys2Proof.Machine

/-! PROOFS. What a command in RUN can do: besides the small changes of the requests, requests become DUE and are handed
on, the supervisor derives and the tracker moves; at an origin event the cycle number advances. -/

namespace Sys2Proof.Machine

open Sys2Proof.Safety

/-! ### Becoming DUE -/

variable {e d : Prop}

theorem becomeDue_chain {r : Request} {t : Time} {s : State} (c : DueCause) (h : BecomesDue s r t) :
    Chain e True s (becomeDue r t c s) :=
  (Chain.single (moveRequest_beside r _ s) (.due trivial r t c h rfl (moveRequest_sameOutputs r _ s))).trans
    (handOn_chain rfl _)

theorem countMiss_chain (s : State) : Chain e d s (countMiss s) := setNotices_chain id

theorem countClamp_chain (s : State) : Chain e d s (countClamp s) := setNotices_chain id

theorem becomeDueTogether_chain {rs : List Request} {t : Time} {s : State} (armed : ∀ r ∈ rs, r.state = .armed)
    (time : t = s.now) : Chain e True s (becomeDueTogether rs t s) := by
  have recorded : ∀ (l : List Request) (u : State), (∀ r ∈ l, r.state = .armed) → t = u.now →
      Chain e True u (l.foldl (fun v r => countMiss (moveRequest r (r.madeDue t .edge) v)) u) := by
    intro l
    induction l with
    | nil => exact fun u _ _ => Chain.refl u
    | cons r l ih =>
      intro u h ht
      rw [List.forall_mem_cons] at h
      have moved : Chain e True u (moveRequest r (r.madeDue t .edge) u) :=
        .single (moveRequest_beside r _ u) (.due trivial r t .edge ⟨.inr h.1, .inl ht⟩ rfl (moveRequest_sameOutputs r _ u))
      have step := moved.trans (countMiss_chain _)
      exact step.trans (ih _ h.2 (ht.trans step.beside.now.symm))
  have handed : ∀ (l : List Request) (u : State), (∀ r ∈ l, r.state = .due) →
      Chain e True u (l.foldl (fun v r => handOn r v) u) := by
    intro l
    induction l with
    | nil => exact fun u _ => Chain.refl u
    | cons r l ih =>
      intro u h
      rw [List.forall_mem_cons] at h
      exact (handOn_chain h.1 u).trans (ih _ h.2)
  refine (recorded rs s armed time).trans (handed _ _ fun r hr => ?_)
  have hmem := (List.mem_filter.mp hr).2
  simp only [List.contains_eq_mem, List.mem_map, decide_eq_true_eq] at hmem
  obtain ⟨x, -, rfl⟩ := hmem
  rfl

/-! ### What a command in RUN can do -/

/-- A row of what a command in RUN can do under one cycle number. `enters` says whether requests may enter the
queue. -/
inductive Big (enters : Prop) : State → State → Prop
  | chain {s t : State} (h : Chain enters False s t) : Big enters s t
  | due {s : State} {r : Request} {t : Time} (c : DueCause) (present : r ∈ s.queue.requests) (h : BecomesDue s r t) :
      Big enters s (becomeDue r t c s)
  | together {s : State} {rs : List Request} {t : Time} (present : rs.Subperm s.queue.requests)
      (armed : ∀ r ∈ rs, r.state = .armed) (time : t = s.now) : Big enters s (becomeDueTogether rs t s)
  | derive (c : FuelCause) (s : State) : Big enters s (deriveFueling c s)
  | track {s : State} (t : Tracker) (cycle : t.cycle = s.tracker.cycle)
      (timely : TrackerTimely s.now s.tracker → TrackerTimely s.now t) : Big enters s (s.setTracker t)
  | trans {s t u : State} (h : Big enters s t) (g : Big enters t u) : Big enters s u

theorem Big.refl (s : State) : Big e s s := .chain (Chain.refl s)

theorem Big.after {s t u : State} (g : Big e t u) (h : Big e s t) : Big e s u := h.trans g

theorem Big.ite {s t u : State} {p : Prop} [Decidable p] (h : Big e s t) (g : Big e s u) :
    Big e s (if p then t else u) := by split <;> assumption

theorem Big.foldl {α : Type} {f : State → α → State} (hf : ∀ s a, Big e s (f s a)) (l : List α) (s : State) :
    Big e s (l.foldl f s) := by
  induction l generalizing s with
  | nil => exact Big.refl s
  | cons a l ih => exact (hf s a).trans (ih (f s a))

theorem Big.mono {e' : Prop} {s t : State} (he : e → e') (h : Big e s t) : Big e' s t := by
  induction h with
  | chain h => exact .chain (h.mono he id)
  | due c present h => exact .due c present h
  | together a b c => exact .together a b c
  | derive c s => exact .derive c s
  | track t a b => exact .track t a b
  | trans _ _ ih ih' => exact ih.trans ih'

/-! ### The planner -/

theorem startDelay_lt {w : Wheel} {k n p : Nat} (hk : k ≤ n * ticksPerTooth w) (hn : n ≤ 3) (hp : p ≤ 8000000) :
    startDelay w k p < 2 ^ 31 := by
  have hk' : k ≤ 480 := by cases w <;> simp only [ticksPerTooth, pitches] at hk <;> omega
  have product : k * p ≤ 480 * 8000000 := Nat.mul_le_mul hk' hp
  unfold startDelay
  split
  · decide
  · cases w <;> simp only [ticksPerTooth, pitches] <;> omega

theorem camDelay_lt {k p : Nat} (hk : k ≤ 11519) (hp : p ≤ 16000000) : camDelay k p < 2 ^ 31 := by
  have product : k * p ≤ 11519 * 16000000 := Nat.mul_le_mul hk hp
  unfold camDelay
  omega

/-- A candidate of the planner: PLANNED, its lateness limit one in force. -/
def Candidate (l : Limits) (r : Request) : Prop :=
  r.state = .planned ∧ (r.lateness = l.latenessMain ∨ r.lateness = l.latenessOther)

theorem planningRequest_candidate (g : Planning) (cycle : Byte) (l : Limits) (k : PulseKind) (start : Int) (tu : Nat) :
    Candidate l (g.request cycle l k start tu) := by
  refine ⟨rfl, ?_⟩
  by_cases hk : k = .main <;> simp [Planning.request, hk]

/-- Building drops and clamps; what it finds are candidates. -/
theorem buildEntries_chain (g : Planning) (es : List PlanEntry) (s : State) :
    Chain e d s (buildEntries g es s).1 ∧ ∀ r ∈ (buildEntries g es s).2, Candidate s.queue.limits r := by
  have row : ∀ (es : List PlanEntry) (acc : State × List Request), acc.1.queue.limits = s.queue.limits →
      (∀ r ∈ acc.2, Candidate s.queue.limits r) → Chain e d acc.1 (es.foldl (buildEntry g) acc).1 ∧
        ∀ r ∈ (es.foldl (buildEntry g) acc).2, Candidate s.queue.limits r := by
    intro es
    induction es with
    | nil => exact fun acc _ hr => ⟨Chain.refl _, hr⟩
    | cons x es ih =>
      intro acc hl hr
      have found (tu : Nat) : ∀ r ∈ acc.2 ++ [g.request acc.1.tracker.cycle acc.1.queue.limits x.kind x.start tu],
          Candidate s.queue.limits r := by
        intro r hmem
        rcases List.mem_append.mp hmem with h | h
        · exact hr r h
        · rw [List.mem_singleton.mp h, hl]
          exact planningRequest_candidate _ _ _ _ _ _
      have next : Chain e d acc.1 (buildEntry g acc x).1 ∧ (buildEntry g acc x).1.queue.limits = s.queue.limits ∧
          ∀ r ∈ (buildEntry g acc x).2, Candidate s.queue.limits r := by
        unfold buildEntry
        dsimp only
        split
        · exact ⟨noteDrop_chain _ _ _, hl, hr⟩
        · split
          · exact ⟨countClamp_chain _, hl, found acc.1.queue.limits.maxPulse⟩
          · exact ⟨Chain.refl _, hl, found _⟩
      obtain ⟨chain, limits, candidates⟩ := next
      obtain ⟨rest, all⟩ := ih _ limits candidates
      exact ⟨chain.trans rest, all⟩
  exact row es (s, []) rfl (by simp)

theorem Enters.of_quiet {s t : State} {r : Request} (q : Quiet s t) (h : Enters s r) : Enters t r where
  injecting := by rw [q.fueling]; exact h.injecting
  lateness := by rw [q.limits]; exact h.lateness
  start := by rw [q.now, q.tracker]; exact h.start

theorem enterQueue_full {r : Request} {s : State} (h : 16 ≤ s.queue.requests.length) :
    enterQueue r s = noteDrop .queueFull r s := if_pos h

theorem enterQueue_room {r : Request} {s : State} (h : s.queue.requests.length < 16) :
    enterQueue r s = { s with queue := { s.queue with
      requests := insertRequest r s.queue.requests
      depthMark := max s.queue.depthMark (s.queue.requests.length + 1) } } := by
  unfold enterQueue
  rw [if_neg (Nat.not_le.mpr h)]
  simp only [insertRequest_length]

theorem enterQueue_chain {r : Request} {s : State} (h : Enters s r) : Chain True d s (enterQueue r s) := by
  rcases Nat.lt_or_ge s.queue.requests.length 16 with room | full
  · have beside : Beside s (enterQueue r s) := .of_quiet (enterQueue_quiet r s)
      (by rw [enterQueue_room room]; exact fun _ => id) (by rw [enterQueue_room room]; exact fun _ => id)
      (by rw [enterQueue_room room]; exact id) (fun ⟨a, b⟩ => enterQueue_bounds r s a b)
    refine .single beside (.enter trivial r h ?_ ?_)
    · rw [enterQueue_room room]
    · rw [enterQueue_room room]; exact .of_eq (fun x => by cases x <;> rfl) rfl
  · rw [enterQueue_full full]
    exact noteDrop_chain _ _ _

theorem mem_inClassOrder {r : Request} {rs : List Request} (h : r ∈ inClassOrder rs) : r ∈ rs := by
  obtain ⟨k, -, hr⟩ := List.mem_flatMap.mp h
  exact (List.mem_filter.mp hr).1

theorem AtPresent.of_beside {s t : State} {e : ToothEvent} (b : Beside s t) (h : AtPresent s e) : AtPresent t e :=
  ⟨by rw [b.now]; exact h.time, h.spanNext, by rw [b.now, b.tracker]; exact h.predicted⟩

/-- A candidate placed at a tooth of the present enters ARMED with a bounded delay, or PLANNED. -/
theorem placed_enters {s : State} {ev : ToothEvent} {r : Request} (hi : injecting s.fueling.state = true)
    (present : AtPresent s ev) (hr : Candidate s.queue.limits r) :
    Enters s (if r.sortKey ≤ ((ev.spanNext * ticksPerTooth s.tracker.wheel.wheel : Nat) : Int) then
      r.anchor s.tracker.wheel.wheel ev else r) := by
  obtain ⟨planned, lateness⟩ := hr
  split
  · rename_i hk
    refine ⟨hi, lateness, .inr ⟨rfl, fun timely => ?_⟩⟩
    rw [← present.time]
    exact ⟨_, startDelay_lt (by omega) present.spanNext (present.predicted timely), rfl⟩
  · exact ⟨hi, lateness, .inl planned⟩

theorem insertPlanned_chain {s : State} {ev : ToothEvent} {rs : List Request} (hi : injecting s.fueling.state = true)
    (present : AtPresent s ev) (hrs : ∀ r ∈ rs, Candidate s.queue.limits r) :
    Chain True d s (insertPlanned ev rs s) := by
  have row : ∀ (l : List Request) (u : State), Quiet s u → (∀ r ∈ l, Candidate s.queue.limits r) →
      Chain True d u (l.foldl (fun v r => enterQueue (if r.sortKey ≤
        ((ev.spanNext * ticksPerTooth s.tracker.wheel.wheel : Nat) : Int) then r.anchor s.tracker.wheel.wheel ev else r)
        v) u) := by
    intro l
    induction l with
    | nil => exact fun u _ _ => Chain.refl u
    | cons r l ih =>
      intro u q h
      rw [List.forall_mem_cons] at h
      exact (enterQueue_chain ((placed_enters hi present h.1).of_quiet q)).trans
        (ih _ (q.trans (enterQueue_quiet _ u)) h.2)
  exact row _ s (Quiet.refl s) (fun r hr => hrs r (mem_inClassOrder hr))

theorem planFrom_chain {s : State} {ev : ToothEvent} (g : Planning) (hi : injecting s.fueling.state = true)
    (present : AtPresent s ev) : Chain True d s (planFrom ev g s) := by
  have built (es : List PlanEntry) :
      Chain True d s (insertPlanned ev (buildEntries g es s).2 (buildEntries g es s).1) := by
    obtain ⟨chain, candidates⟩ := buildEntries_chain (e := True) (d := d) g es s
    have q := buildEntries_quiet g es s
    exact chain.trans (insertPlanned_chain (by rw [q.fueling]; exact hi) (present.of_beside chain.beside)
      (by rw [q.limits]; exact candidates))
  exact (parityFault_chain _ _ _ _).ite (((parityFault_chain _ _ _ _).ite (built _)).ite (built _))

theorem takeUpAtTooth_chain {s : State} {ev : ToothEvent} (p : Position) (entry : RingEntry) (present : AtPresent s ev) :
    Chain True d s (takeUpAtTooth ev p entry s) := by
  unfold takeUpAtTooth
  dsimp only
  split
  · rename_i h
    simp only [Bool.and_eq_true, Bool.or_eq_true, beq_iff_eq] at h
    refine planFrom_chain _ ?_ present
    rcases h.1 with h | h <;> rw [h] <;> rfl
  · exact Chain.refl s

theorem planPosition_chain {s : State} {ev : ToothEvent} (i : Nat) (present : AtPresent s ev) :
    Chain True d s (planPosition ev i s) := by
  unfold planPosition
  split
  · have named := nameCylinder_chain (e := True) (d := d) (‹RingEntry›).cylinder s
    exact (named.trans (takeUpAtTooth_chain _ _ (present.of_beside named.beside))).ite (Chain.refl s)
  · exact Chain.refl s

/-- A start that has been missed at a tooth was ARMED, and its request stands in the queue with its reduced key. -/
theorem queueTooth_big {s : State} {ev : ToothEvent} (present : AtPresent s ev) : Big e s (queueTooth ev s) := by
  have reduced : Chain e False s (s.setRequests (s.queue.requests.map (fun r => r.atTooth s.tracker.wheel.wheel ev))) :=
    .single (setRequests_beside (by simp)) (.tooth ev present rfl (.of_eq (fun x => by simp) rfl))
  refine (Big.chain reduced).trans (.together ?_ ?_ ?_)
  · exact (List.filter_sublist.map _).subperm
  · intro r hr
    obtain ⟨x, hx, rfl⟩ := List.mem_map.mp hr
    have hmissed := (List.mem_filter.mp hx).2
    simp only [missedAt, Bool.and_eq_true, beq_iff_eq] at hmissed
    simp [Request.atTooth, hmissed.1]
  · rw [present.time]; rfl

theorem queueCam_big {s : State} {t : Time} (time : t = s.now) : Big e s (queueCam t s) :=
  .together List.filter_sublist.subperm (fun r hr => by simpa using (List.mem_filter.mp hr).2) time

theorem angleDist_lt (a b : Nat) : angleDist a b < 11520 := by
  unfold angleDist cycleMod
  omega

/-- Admitting a limp candidate: ARMED with a bounded delay, dropped, or DUE at once (R92). -/
theorem admitLimp_big {s : State} {t : Time} {period : Nat} {r : Request} (hi : injecting s.fueling.state = true)
    (time : t = s.now) (hperiod : TrackerTimely s.now s.tracker → period ≤ 16000000)
    (hr : Candidate s.queue.limits r) (hkey : r.sortKey.toNat ≤ 11519) : Big True s (admitLimp t period r s) := by
  have enters {start : Time} (hs : TrackerTimely s.now s.tracker → ∃ k < 2 ^ 31, start = later s.now k) :
      Enters s { r with state := .armed, scheduledStart := some start } :=
    ⟨hi, hr.2, .inr ⟨rfl, fun timely => let ⟨k, hk, hstart⟩ := hs timely; ⟨k, hk, congrArg some hstart⟩⟩⟩
  unfold admitLimp
  dsimp only
  split
  · exact .chain (enterQueue_chain (enters fun timely => ⟨_, camDelay_lt hkey (hperiod timely), by rw [time]⟩))
  · split
    · exact .chain (noteDrop_chain _ _ _)
    · rename_i hroom
      have entered := enterQueue_chain (d := False) (enters (start := t) fun _ => ⟨0, by decide, by simp [later, time]⟩)
      refine (Big.chain entered).trans (.due _ ?_ ⟨.inr rfl, .inl (by rw [entered.beside.now, time])⟩)
      rw [enterQueue_room (Nat.lt_of_not_le hroom)]
      exact mem_insertRequest.mpr (.inl rfl)

theorem buildEntries_key (g : Planning) (x : PlanEntry) (s : State) :
    ∀ r ∈ (buildEntries g [x] s).2, r.sortKey.toNat ≤ 11519 := by
  have key (k : PulseKind) (start : Int) (tu : Nat) (cycle : Byte) (l : Limits) :
      (g.request cycle l k start tu).sortKey.toNat ≤ 11519 := by
    have := angleDist_lt g.reference (cycleMod ((g.entry.tdc : Int) + start))
    simp only [Planning.request]
    omega
  intro r hr
  simp only [buildEntries, List.foldl_cons, List.foldl_nil, buildEntry] at hr
  split at hr
  · simp at hr
  · split at hr <;> · simp only [List.nil_append, List.mem_singleton] at hr; rw [hr]; exact key _ _ _ _ _

theorem planLimp_big {s : State} {t : Time} {period : Nat} (g : Planning) (hi : injecting s.fueling.state = true)
    (time : t = s.now) (hperiod : TrackerTimely s.now s.tracker → period ≤ 16000000) :
    Big True s (planLimp t period g s) := by
  unfold planLimp
  split
  · exact .chain (parityFault_chain _ _ _ _)
  · obtain ⟨chain, candidates⟩ := buildEntries_chain (e := True) (d := False) g [s.store.limp] s
    have keys := buildEntries_key g s.store.limp s
    refine (Big.chain chain).trans ?_
    have q := buildEntries_quiet g [s.store.limp] s
    have row : ∀ (l : List Request) (u : State), Quiet s u → (∀ r ∈ l, Candidate s.queue.limits r) →
        (∀ r ∈ l, r.sortKey.toNat ≤ 11519) → Big True u (l.foldl (fun v r => admitLimp t period r v) u) := by
      intro l
      induction l with
      | nil => exact fun u _ _ _ => Big.refl u
      | cons r l ih =>
        intro u q h hk
        rw [List.forall_mem_cons] at h hk
        exact (admitLimp_big (by rw [q.fueling]; exact hi) (by rw [q.now]; exact time)
          (by rw [q.now, q.tracker]; exact hperiod) (by rw [q.limits]; exact h.1) hk.1).trans
          (ih _ (q.trans (admitLimp_quiet t period r u)) h.2 hk.2)
    exact row _ _ q candidates keys

theorem planLimpPosition_big {s : State} {t : Time} {period : Nat} (i : Nat) (time : t = s.now)
    (hperiod : TrackerTimely s.now s.tracker → period ≤ 16000000) : Big True s (planLimpPosition t period i s) := by
  unfold planLimpPosition
  split
  · exact Big.refl s
  · rename_i entry _
    dsimp only
    refine (Big.chain (nameCylinder_chain entry.cylinder s)).trans ?_
    split
    · rename_i h
      simp only [Bool.and_eq_true, beq_iff_eq] at h
      exact planLimp_big _ (by rw [h.1]; rfl) time hperiod
    · exact Big.refl _

/-! ### Planning and the origin event -/

/-- A row of what a command in RUN can do under one cycle number, the taking-up of positions at a tooth told apart. -/
inductive Run : State → State → Prop
  | big {s t : State} (h : Big False s t) : Run s t
  | tooth {s : State} {ev : ToothEvent} (i : Nat) (present : AtPresent s ev) : Run s (planPosition ev i s)
  | trans {s t u : State} (h : Run s t) (g : Run t u) : Run s u

theorem Run.refl (s : State) : Run s s := .big (Big.refl s)

theorem Run.after {s t u : State} (g : Run t u) (h : Run s t) : Run s u := h.trans g

theorem Run.enters {s t : State} (h : Run s t) : Big True s t := by
  induction h with
  | big h => exact h.mono False.elim
  | tooth i present => exact .chain (planPosition_chain i present)
  | trans _ _ ih ih' => exact ih.trans ih'

theorem Run.ite {s t u : State} {p : Prop} [Decidable p] (h : Run s t) (g : Run s u) : Run s (if p then t else u) := by
  split <;> assumption

theorem toothEvent_run {s : State} {ev : ToothEvent} (present : AtPresent s ev) : Run s (toothEvent ev s) := by
  have row : ∀ (l : List Nat) (u : State), AtPresent u ev → Run u (l.foldl (fun v i => planPosition ev i v) u) := by
    intro l
    induction l with
    | nil => exact fun u _ => Run.refl u
    | cons i l ih =>
      intro u h
      have step : Chain True False u (planPosition ev i u) := planPosition_chain i h
      exact (Run.tooth i h).trans (ih _ (h.of_beside step.beside))
  have q := queueTooth_quiet ev s
  exact (Run.big (queueTooth_big present)).trans (row _ _ ⟨by rw [q.now]; exact present.time, present.spanNext,
    by rw [q.now, q.tracker]; exact present.predicted⟩)

theorem camEvent_big {s : State} {t : Time} {period : Nat} (time : t = s.now)
    (timely : TrackerTimely s.now s.tracker → period ≤ 16000000) : Big True s (camEvent t period s) := by
  have row : ∀ (l : List Nat) (u : State), Quiet s u →
      Big True u (l.foldl (fun v i => planLimpPosition t period i v) u) := by
    intro l
    induction l with
    | nil => exact fun u _ => Big.refl u
    | cons i l ih =>
      intro u q
      exact (planLimpPosition_big i (by rw [q.now]; exact time) (by rw [q.now, q.tracker]; exact timely)).trans
        (ih _ (q.trans (planLimpPosition_quiet t period i u)))
  exact (queueCam_big time).trans (row _ _ (queueCam_quiet t s))

/-- The start of an origin event: the cycle number advances and the cycle-planned flags are cleared (R14, R49). -/
def counted (s : State) : State := clearPlanned { s with tracker := { s.tracker with cycle := s.tracker.cycle + 1 } }

/-- What an edge can do: a row under one cycle number; two with the advance of the cycle number between them; or such an
advance after which a cam edge of CAM_ONLY is handed to the planner. -/
def Rows (s t : State) : Prop :=
  Run s t ∨ (∃ u, Run s u ∧ Run (counted u) t) ∨
    ∃ u v now period, Run s u ∧ Big False (counted u) v ∧ now = v.now ∧
      (TrackerTimely v.now v.tracker → period ≤ 16000000) ∧ Run (camEvent now period v) t

theorem Run.rows {s t : State} (h : Run s t) : Rows s t := .inl h

/-- What an edge can do, the planner's part not told apart. -/
theorem Rows.enters {s t : State} (h : Rows s t) : Big True s t ∨ ∃ u, Big True s u ∧ Big True (counted u) t := by
  rcases h with h | ⟨u, hu, h⟩ | ⟨u, v, now, period, hu, hv, time, timely, h⟩
  · exact .inl h.enters
  · exact .inr ⟨u, hu.enters, h.enters⟩
  · exact .inr ⟨u, hu.enters, ((hv.mono False.elim).trans (camEvent_big time timely)).trans h.enters⟩

theorem Rows.after {s t u : State} (h : Rows t u) (g : Run s t) : Rows s u := by
  rcases h with h | ⟨v, hv, h⟩ | ⟨v, w, now, period, hv, h⟩
  · exact .inl (g.trans h)
  · exact .inr (.inl ⟨v, g.trans hv, h⟩)
  · exact .inr (.inr ⟨v, w, now, period, g.trans hv, h⟩)

theorem Rows.then {s t u : State} (h : Rows s t) (g : Run t u) : Rows s u := by
  rcases h with h | ⟨v, hv, h⟩ | ⟨v, w, now, period, hv, hw, time, timely, h⟩
  · exact .inl (h.trans g)
  · exact .inr (.inl ⟨v, hv, h.trans g⟩)
  · exact .inr (.inr ⟨v, w, now, period, hv, hw, time, timely, h.trans g⟩)

theorem Rows.ite {s t u : State} {p : Prop} [Decidable p] (h : Rows s t) (g : Rows s u) :
    Rows s (if p then t else u) := by split <;> assumption

end Sys2Proof.Machine

/-! PROOFS. What the supervisor, the store and the tracker can do, as rows of what a command in RUN can do. -/

namespace Sys2Proof.Machine

open Sys2Proof.Safety

variable {e d : Prop}

/-! ### The supervisor and the store -/

theorem setFueling_chain {s : State} {f : Fueling} (state : f.state = s.fueling.state := by rfl) :
    Chain e d s (s.setFueling f) :=
  .aside ⟨rfl, state, rfl, rfl, rfl, id, fun _ => id, fun _ => id, id, (setFueling_fuelOnly s f).samePlans.plansInOrder,
    id, id, id, id, id⟩ rfl
    (.of_eq (fun x => by cases x <;> rfl) rfl)

theorem setStore_chain {s : State} {t : Store} (age : s.store.age ≤ 255 → t.age ≤ 255)
    (plans : PlansInOrder s → PlansInOrder (s.setStore t)) : Chain e d s (s.setStore t) :=
  .aside ⟨rfl, rfl, rfl, rfl, rfl, id, fun _ => id, fun _ => id, id, plans, id, id, age, id, id⟩ rfl
    (.of_eq (fun x => by cases x <;> rfl) rfl)

theorem judgeSpeed_chain (s : State) : Chain e d s (judgeSpeed s) := setFueling_chain

theorem judgeExpired_chain (s : State) : Chain e d s (judgeExpired s) :=
  Chain.ite ((raise_chain _ _ _ _ _).after setFueling_chain) (Chain.ite setFueling_chain (Chain.refl s))

theorem handSpeed_big (s : State) : Big e s (handSpeed s) :=
  (Big.derive _ _).after (.chain ((judgeSpeed_chain _).after setFueling_chain))

theorem handSync_big (s : State) : Big e s (handSync s) := (Big.derive _ _).after (.chain setFueling_chain)

theorem handAge_big (s : State) : Big e s (handAge s) :=
  (Big.derive _ _).after (.chain ((judgeExpired_chain _).after setFueling_chain))

theorem handClock_big (s : State) : Big e s (handClock s) := (Big.derive _ _).after (.chain setFueling_chain)

/-- Exchanging the roles of the banks keeps their plans (R70). -/
theorem exchange_plansInOrder {s : State} (g : Byte) (h : PlansInOrder s) : PlansInOrder (s.setStore
    { s.store.setBank (otherBank s.store.active) { s.store.bank (otherBank s.store.active) with tag := g } with
      active := otherBank s.store.active, age := 0 }) := by
  refine SamePlans.plansInOrder (s := s) ⟨rfl, ?_, ?_, ?_⟩ h
  all_goals cases hx : otherBank s.store.active <;> simp [State.setStore, Store.setBank, Store.bank]

theorem swapTakesEffect_big (g : Byte) (b : Bool) (s : State) : Big e s (swapTakesEffect g b s) := by
  have settled (u : State) : Big e u (u.setStore { u.store with pendingSwap := none }) :=
    .chain (setStore_chain (fun h => h) (SamePlans.plansInOrder ⟨rfl, rfl, rfl, rfl⟩))
  have exchanged := setStore_chain (e := e) (d := False) (s := s) (fun _ => Nat.zero_le _) (exchange_plansInOrder g)
  exact (Big.chain (raise_chain _ _ _ _ _)).after ((settled _).after ((handAge_big _).after (.chain exchanged)))

theorem storeOrigin_big (s : State) : Big e s (storeOrigin s) := by
  unfold storeOrigin
  split
  · exact swapTakesEffect_big _ _ s
  · exact (handAge_big _).after (.chain (setStore_chain (fun _ => Nat.min_le_left _ _)
      (SamePlans.plansInOrder ⟨rfl, rfl, rfl, rfl⟩)))

theorem originEvent_rows (s : State) : Rows s (originEvent s) :=
  .inr (.inl ⟨s, Run.refl s, .big (storeOrigin_big (counted s))⟩)

/-! ### What a row leaves alone -/

theorem Big.control {s t : State} (h : Big e s t) : t.control.mode = s.control.mode ∧ t.now = s.now ∧
    t.control.wakeSource = s.control.wakeSource ∧ t.tracker.cycle = s.tracker.cycle := by
  induction h with
  | chain h => exact ⟨h.beside.mode, h.beside.now, h.beside.wakeSource, by rw [h.beside.tracker]⟩
  | @due s r t c present h =>
    have q := becomeDue_quiet r t c s
    exact ⟨by rw [q.control], q.now, by rw [q.control], by rw [q.tracker]⟩
  | @together s rs t present armed time =>
    have q := becomeDueTogether_quiet rs t s
    exact ⟨by rw [q.control], q.now, by rw [q.control], by rw [q.tracker]⟩
  | derive c s =>
    have f := deriveFueling_fuelOnly c s
    exact ⟨by rw [f.control], congrArg (·.timebase) f.control, by rw [f.control], by rw [f.tracker]⟩
  | track t cycle _ => exact ⟨rfl, rfl, rfl, cycle⟩
  | trans _ _ ih ih' =>
    obtain ⟨m, n, w, c⟩ := ih
    obtain ⟨m', n', w', c'⟩ := ih'
    exact ⟨m'.trans m, n'.trans n, w'.trans w, c'.trans c⟩

theorem Big.now {s t : State} (h : Big e s t) : t.now = s.now := h.control.2.1

theorem Big.running {s t : State} (h : Big e s t) : t.running = s.running := by
  rw [State.running, State.running, h.control.1]

theorem Run.now {s t : State} (h : Run s t) : t.now = s.now := h.enters.now

theorem Rows.now {s t : State} (h : Rows s t) : t.now = s.now := by
  rcases h.enters with h | ⟨u, hu, h⟩
  · exact h.now
  · exact h.now.trans hu.now

/-! ### The tracker's part of `Timely` -/

/-- The bounds of a period history (R30, R32). -/
def PeriodHistory.Bounded (h : PeriodHistory) : Prop :=
  (∀ p, h.current = some p → p ≤ 4000000) ∧ (∀ p, h.predicted = some p → p ≤ 8000000)

theorem empty_bounded : PeriodHistory.empty.Bounded := ⟨nofun, nofun⟩

theorem normalPeriod_le (raw span : Nat) : normalPeriod raw span ≤ 4000000 := Nat.min_le_left _ _

theorem predict_le {a p : Nat} (o : Option Nat) (h : p ≤ 4000000) : predict a o p ≤ 8000000 := by
  cases o with
  | none => exact h.trans (by decide)
  | some q => simp only [predict]; omega

theorem record_bounded (h : PeriodHistory) (a raw span : Nat) : (h.record a (normalPeriod raw span)).Bounded :=
  ⟨fun _ hp => by cases hp; exact normalPeriod_le _ _, fun _ hp => by cases hp; exact predict_le _ (normalPeriod_le _ _)⟩

theorem reduce_bounded {h : PeriodHistory} (b : h.Bounded) : h.reduce.Bounded :=
  ⟨b.1, fun p hp => (b.1 p hp).trans (by decide)⟩

/-- A tracker with the same cam times, and bounded histories. -/
theorem TrackerTimely.of_periods {now : Time} {t u : Tracker} (h : TrackerTimely now t) (cam : u.cam = t.cam)
    (edge : u.camHistory.lastEdge = t.camHistory.lastEdge) (period : u.camHistory.period = t.camHistory.period)
    (timer : u.camTimer = t.camTimer) (history : u.history.Bounded) (seek : u.seek.history.Bounded) :
    TrackerTimely now u where
  periods := by rintro k (rfl | rfl) <;> assumption
  camStall := by rw [cam]; exact h.camStall
  camPeriod := by rw [period]; exact h.camPeriod
  camTimer := by rw [timer, edge]; exact h.camTimer
  camEdge := by rw [edge, cam]; exact h.camEdge

theorem TrackerTimely.history {now : Time} {t : Tracker} (h : TrackerTimely now t) : t.history.Bounded :=
  h.periods _ (.inl rfl)

theorem TrackerTimely.seek {now : Time} {t : Tracker} (h : TrackerTimely now t) : t.seek.history.Bounded :=
  h.periods _ (.inr rfl)

/-- A tracker with no cam history left. -/
theorem TrackerTimely.of_cleared {now : Time} {t u : Tracker} (h : TrackerTimely now t) (cam : u.cam.stallTime ≤ 16000000)
    (edge : u.camHistory.lastEdge = none) (period : u.camHistory.period = none)
    (timer : u.camTimer = none) (history : u.history.Bounded) (seek : u.seek = t.seek) : TrackerTimely now u where
  periods := by
    rintro k (rfl | rfl)
    · exact history
    · rw [seek]; exact h.seek
  camStall := cam
  camPeriod := by rw [period]; exact nofun
  camTimer := by rw [timer, edge]
  camEdge := by rw [edge]; exact nofun

@[simp] theorem elapsed_self (t : Time) : elapsed t t = 0 := by simp [elapsed]

/-- A cam edge of the present. -/
theorem TrackerTimely.of_edge {now : Time} {t u : Tracker} (h : TrackerTimely now t) (cam : u.cam = t.cam)
    (edge : u.camHistory.lastEdge = some now) (timer : u.camTimer = some now)
    (period : ∀ c, u.camHistory.period = some c → c ≤ 16000000) (history : u.history = t.history)
    (seek : u.seek = t.seek) : TrackerTimely now u where
  periods := by rw [history, seek]; exact h.periods
  camStall := by rw [cam]; exact h.camStall
  camPeriod := period
  camTimer := by rw [timer, edge]
  camEdge e he := by rw [edge] at he; cases he; rw [elapsed_self]; exact Nat.zero_le _

theorem camPeriod_le {now last : Time} {t : Tracker} (h : TrackerTimely now t) (edge : t.camHistory.lastEdge = some last) :
    camPeriod last now ≤ 16000000 := by
  have := (h.camEdge last edge).trans h.camStall
  simp only [camPeriod]
  omega

theorem closeWindow_fields (t : Tracker) : t.closeWindow.cam = t.cam ∧ t.closeWindow.cycle = t.cycle ∧
    t.closeWindow.camHistory.lastEdge = t.camHistory.lastEdge ∧ t.closeWindow.camHistory.period = t.camHistory.period ∧
    t.closeWindow.camTimer = t.camTimer ∧ t.closeWindow.history = t.history ∧ t.closeWindow.seek = t.seek := by
  simp only [Tracker.closeWindow]
  split
  · exact ⟨rfl, rfl, rfl, rfl, rfl, rfl, rfl⟩
  · split
    · split <;> exact ⟨rfl, rfl, rfl, rfl, rfl, rfl, rfl⟩
    · exact ⟨rfl, rfl, rfl, rfl, rfl, rfl, rfl⟩

theorem closeWindow_timely {now : Time} {t : Tracker} (h : TrackerTimely now t) : TrackerTimely now t.closeWindow := by
  obtain ⟨cam, -, edge, period, timer, history, seek⟩ := closeWindow_fields t
  exact h.of_periods cam edge period timer (by rw [history]; exact h.history) (by rw [seek]; exact h.seek)

/-- A tracker replaced, its cam times the same and its histories still bounded. -/
theorem track_big {s : State} {t : Tracker} (history : s.tracker.history.Bounded → s.tracker.seek.history.Bounded → t.history.Bounded)
    (seek : s.tracker.seek.history.Bounded → t.seek.history.Bounded)
    (cycle : t.cycle = s.tracker.cycle := by rfl) (cam : t.cam = s.tracker.cam := by rfl)
    (edge : t.camHistory.lastEdge = s.tracker.camHistory.lastEdge := by rfl)
    (period : t.camHistory.period = s.tracker.camHistory.period := by rfl)
    (timer : t.camTimer = s.tracker.camTimer := by rfl) : Big e s (s.setTracker t) :=
  .track t cycle fun h => h.of_periods cam edge period timer (history h.history h.seek) (seek h.seek)

/-! ### Edges of the crank -/

theorem spanAfter_le (w : Wheel) (i : Nat) : spanAfter w i ≤ 3 := by
  unfold spanAfter
  split
  · cases w <;> decide
  · decide

theorem noteCamMissing_big (s : State) : Big e s (noteCamMissing s) :=
  (handSync_big _).after (.chain (raise_chain _ _ _ _ _))

theorem publishTooth_rows {s : State} {now : Time} (α i n : Nat) (time : now = s.now) :
    Rows s (publishTooth now α i n s) := by
  have origin (u : State) : Rows u (if α = 0 then originEvent u else u) := (originEvent_rows u).ite (Run.refl u).rows
  have row := (origin (handSpeed s)).after (.big (handSpeed_big s))
  refine row.then (toothEvent_run ⟨by rw [row.now]; exact time, spanAfter_le _ _, fun timely => ?_⟩)
  cases hp : (if α = 0 then originEvent (handSpeed s) else handSpeed s).tracker.history.predicted with
  | none => exact Nat.zero_le _
  | some p => exact timely.history.2 p hp

theorem publishEdge_rows {s : State} {now : Time} (q α i n : Nat) (time : now = s.now) :
    Rows s (publishEdge now q α i n s) := by
  have closed : Run s (s.setTracker s.tracker.closeWindow) :=
    .big (.track _ (closeWindow_fields s.tracker).2.1 closeWindow_timely)
  have missing (u : State) : Run u (noteCamMissing u) := .big (noteCamMissing_big u)
  have time' : now = (s.setTracker s.tracker.closeWindow).now := time
  unfold publishEdge
  dsimp only
  split
  · split
    · exact (publishTooth_rows α i n time').after closed
    · split
      · exact (publishTooth_rows α i n (time'.trans (missing _).now.symm)).after (closed.trans (missing _))
      · exact ((publishTooth_rows α i n time').after closed).then (missing _)
  · exact publishTooth_rows α i n time

theorem startSeeking_run (now : Time) (s : State) : Run s (startSeeking now s) :=
  .big ((handSync_big _).after (track_big (fun h _ => h) id))

theorem seekingEdge_run (now : Time) (s : State) : Run s (seekingEdge now s) := by
  unfold seekingEdge
  dsimp only
  split
  · exact .big (track_big (fun h _ => h) id)
  · refine Run.ite (.big ?_) (.big ?_)
    · exact (handSync_big _).after ((handSpeed_big _).after (track_big (fun _ _ => record_bounded _ _ _ _) id))
    · exact (handSpeed_big _).after (track_big (fun _ _ => record_bounded _ _ _ _) id)

theorem loseSync_chain (n : Nat) (s : State) : Chain e d s (loseSync n s) :=
  (dropNonDriving_chain _ s).trans (raise_chain _ _ _ _ _)

theorem countGapError_chain (s : State) : Chain e d s (countGapError s) := setNotices_chain id

theorem gapErrorAt_run (now : Time) (s : State) : Run s (gapErrorAt now s) := by
  have left (u : State) : Big False u (if s.tracker.sync = .crankSync then u else loseSync 0 u) :=
    (Big.refl u).ite (.chain (loseSync_chain 0 u))
  exact .big ((handSync_big _).after ((left _).after ((Big.chain (countGapError_chain _)).after
    (track_big (fun h _ => reduce_bounded h) id))))

theorem countedEdge_rows {s : State} {now : Time} (time : now = s.now) : Rows s (countedEdge now s) := by
  unfold countedEdge
  extract_lets t w last raw i gap j rev span α u
  have tracked : Big False s u := track_big (fun _ _ => record_bounded _ _ _ _) id
  split
  · split
    · exact Run.rows (.big ((handSpeed_big u).after tracked))
    · exact (publishEdge_rows _ _ _ _ (time.trans tracked.now.symm)).after (.big tracked)
  · exact (gapErrorAt_run now s).rows

theorem seekFound_rows {s : State} {now : Time} (raw : Nat) (time : now = s.now) : Rows s (seekFound now raw s) := by
  unfold seekFound
  dsimp only
  have gained (u : State) : Big False u (handSync (raise .syncGained .absent none (half (syncCode .camOnly))
      (dropNonDriving .syncLost u))) :=
    (handSync_big _).after (.chain ((raise_chain _ _ _ _ _).after (dropNonDriving_chain _ u)))
  refine (publishEdge_rows _ _ _ _ (by rw [(gained _).now]; exact time)).after (.big ((gained _).after ?_))
  exact track_big (fun _ _ => record_bounded _ _ _ _) (fun _ => empty_bounded)

theorem backgroundEdge_rows {s : State} {now : Time} (time : now = s.now) : Rows s (backgroundEdge now s) := by
  unfold backgroundEdge
  dsimp only
  split
  · exact Run.rows (.big (track_big (fun h _ => h) id))
  · refine Rows.ite (seekFound_rows _ time) (Run.rows (.big ?_))
    exact track_big (fun h _ => h) (fun _ => record_bounded _ _ _ _)

theorem acceptedEdge_rows {s : State} {now : Time} (time : now = s.now) : Rows s (acceptedEdge now s) := by
  unfold acceptedEdge
  split
  · exact (startSeeking_run now s).rows
  · exact (seekingEdge_run now s).rows
  · exact countedEdge_rows time
  · exact countedEdge_rows time
  · exact countedEdge_rows time
  · exact backgroundEdge_rows time

theorem countGlitch_chain (s : State) : Chain e d s (countGlitch s) := setNotices_chain id

theorem beginPulse_big (b : Bool) (now : Time) (s : State) : Big e s (beginPulse b now s) :=
  track_big (fun h _ => h) id

theorem activeEdge_rows {s : State} {now : Time} (time : now = s.now) : Rows s (activeEdge now s) :=
  Rows.ite ((acceptedEdge_rows (s := beginPulse true now s) time).after (.big (beginPulse_big true now s)))
    (Run.rows (.big ((Big.chain (countGlitch_chain _)).after (beginPulse_big false now s))))

/-! ### The reverse edge -/

/-- A driving request leaves once its end has been reported. -/
theorem Ending.left {o : Request} {s t : State} (q : DropReason) (h : Ending o.bank o.cylinder s t)
    (present : o ∈ s.queue.requests) (drives : driving o.state = true) : Chain e d s (dropRequest q o t) := by
  have outputs : SameOutputs t (removeRequest o t) := .of_eq (fun x => by simp [removeRequest]) rfl
  refine Chain.trans (.single (h.beside.trans (removeRequest_beside o t))
    (.ended o.bank o present rfl drives ?_ (h.outputs.sameOutputs outputs))) (noteDrop_chain q o _)
  rw [← h.requests]
  rfl

theorem abortByReverse_requests (o : Request) (s : State) :
    (abortByReverse o s).queue.requests = s.queue.requests.erase o := by
  rw [abortByReverse, dropRequest_requests, (abortBegin_ending o.bank o s).requests]

theorem reverseOrder_chain (s : State) : Chain e d s (reverseOrder s) := by
  have aborted : ∀ (l : List Request) (u : State), l.Subperm u.queue.requests → (∀ r ∈ l, driving r.state = true) →
      Chain e d u (l.foldl (fun t r => abortByReverse r t) u) := by
    intro l
    induction l with
    | nil => exact fun u _ _ => Chain.refl u
    | cons r l ih =>
      intro u sub h
      rw [List.forall_mem_cons] at h
      have rest := sub.erase r
      rw [List.erase_cons_head] at rest
      refine Chain.trans ((abortBegin_ending r.bank r u).left .reverse (sub.subset List.mem_cons_self) h.1) (ih _ ?_ h.2)
      exact (abortByReverse_requests r u).symm ▸ rest
  refine ((aborted _ s List.filter_sublist.subperm fun r hr => (List.mem_filter.mp hr).2).trans
    (dropNonDriving_chain .reverse _)).trans ?_
  exact Chain.foldl (fun (t : State) (r : Request) => auction_chain r.bank t) _ _

theorem reverseEdge_run (now : Time) (s : State) : Run s (reverseEdge now s) :=
  .big ((handSync_big _).after ((Big.chain (raise_chain _ _ _ _ _)).after
    ((track_big (fun _ _ => empty_bounded) (fun _ => empty_bounded)).after (.chain (reverseOrder_chain s)))))

theorem trailingEdge_run (now : Time) (s : State) : Run s (trailingEdge now s) := by
  have cleared : Run s (s.setTracker { s.tracker with pulseStart := none }) :=
    .big (track_big (fun h _ => h) id)
  unfold trailingEdge
  split
  · exact Run.refl s
  · exact (cleared.trans (reverseEdge_run now _)).ite cleared

/-! ### Edges of the cam -/

theorem countCamNoise_chain (s : State) : Chain e d s (countCamNoise s) := setNotices_chain id

theorem countCamConflict_chain (s : State) : Chain e d s (countCamConflict s) := setNotices_chain id

theorem camUpdate_big {s : State} {now : Time} (time : now = s.now) : Big e s (s.setTracker (s.tracker.camUpdate now)) := by
  subst time
  refine .track _ rfl fun h => h.of_edge rfl rfl rfl (fun c hc => ?_) rfl rfl
  simp only [Tracker.camUpdate] at hc
  split at hc
  · cases hc; exact camPeriod_le h ‹_›
  · exact h.camPeriod c hc

theorem gainSync_big (y : SyncState) (s : State) : Big e s (gainSync y s) :=
  (handSync_big _).after (.chain (raise_chain _ _ _ _ _))

theorem resolvePhase_big (θ : Nat) (s : State) : Big e s (resolvePhase θ s) := by
  unfold resolvePhase
  dsimp only
  refine Big.ite ((gainSync_big _ _).after ?_) (.chain (countCamNoise_chain s))
  split <;> exact track_big (fun h _ => h) id

theorem confirmCam_big (s : State) : Big e s (confirmCam s) := by
  unfold confirmCam
  exact Big.ite ((gainSync_big _ _).after (track_big (fun h _ => h) id))
    (track_big (fun h _ => h) id)

theorem flipPhase_big (s : State) : Big e s (flipPhase s) :=
  (Big.chain ((raise_chain _ _ _ _ _).after (dropNonDriving_chain _ _))).after (track_big (fun h _ => h) id)

theorem conflictCam_big (s : State) : Big e s (conflictCam s) :=
  (Big.chain (countCamConflict_chain s)).trans (((flipPhase_big _).trans (confirmCam_big _)).ite
    (track_big (fun h _ => h) id))

theorem classifyCam_big (θ : Nat) (s : State) : Big e s (classifyCam θ s) :=
  (confirmCam_big s).ite ((conflictCam_big s).ite (.chain (countCamNoise_chain s)))

theorem camOnlyAccepted_rows {s : State} {now : Time} {period : Nat} (time : now = s.now)
    (timely : TrackerTimely s.now s.tracker → period ≤ 16000000) : Rows s (camOnlyAccepted now period s) := by
  have tracked : Big False s (s.setTracker { s.tracker with
      camHistory := { s.tracker.camHistory with lastEdge := some now, period := some period }
      camTimer := some now, speed := camSpeed period }) := by
    subst time
    exact .track _ rfl fun h => h.of_edge rfl rfl rfl (fun c hc => by cases hc; exact timely h) rfl rfl
  have handed := (handSpeed_big (e := False) _).after tracked
  have origin := storeOrigin_big (e := False) (counted (handSpeed (s.setTracker { s.tracker with
    camHistory := { s.tracker.camHistory with lastEdge := some now, period := some period }
    camTimer := some now, speed := camSpeed period })))
  refine .inr (.inr ⟨_, _, now, period, .big handed, origin, ?_, fun h => h.camPeriod period ?_, Run.refl _⟩)
  · exact time.trans (origin.now.trans handed.now).symm
  · rw [(storeOrigin_frame _).1]
    show (handSpeed _).tracker.camHistory.period = _
    rw [(handSpeed_fuelOnly _).tracker]
    rfl

theorem camOnlyEdge_rows {s : State} {now : Time} (time : now = s.now) : Rows s (camOnlyEdge now s) := by
  unfold camOnlyEdge
  dsimp only
  split
  · exact Rows.ite (Run.rows (.big (.chain (countCamNoise_chain s))))
      (camOnlyAccepted_rows time fun h => camPeriod_le (time ▸ h) ‹_›)
  · refine camOnlyAccepted_rows time fun h => ?_
    cases hp : s.tracker.camHistory.period with
    | none => exact Nat.le_of_ble_eq_true rfl
    | some c => exact h.camPeriod c hp

theorem placeCam_big {now : Time} {classify : Nat → State → State} (h : ∀ θ u, Big e u (classify θ u)) (s : State) :
    Big e s (placeCam now classify s) := by
  unfold placeCam
  split
  · exact h _ s
  · exact Big.refl s

theorem camEdgeAt_rows {s : State} {now : Time} (time : now = s.now) : Rows s (camEdgeAt now s) := by
  have updated : Big False s (s.setTracker (s.tracker.camUpdate now)) := camUpdate_big time
  unfold camEdgeAt
  split
  · exact camOnlyEdge_rows time
  · exact Run.rows (.big updated)
  · exact Run.rows (.big updated)
  · exact Run.rows (.big (updated.trans (placeCam_big resolvePhase_big _)))
  · exact Run.rows (.big (updated.trans (placeCam_big classifyCam_big _)))
  · exact Run.rows (.big (updated.trans (placeCam_big classifyCam_big _)))

/-! ### Stalls -/

theorem enterStopped_big (s : State) : Big e s (enterStopped s) :=
  (handSync_big _).after ((handSpeed_big _).after (.track _ rfl fun h =>
    h.of_cleared h.camStall rfl rfl rfl empty_bounded rfl))

theorem enterCamOnly_big (period : Nat) (s : State) : Big e s (enterCamOnly period s) :=
  (handSync_big _).after ((handSpeed_big _).after
    ((Big.chain ((raise_chain _ _ _ _ _).after (dropNonDriving_chain _ _))).after
      (track_big (fun h _ => h) (fun _ => empty_bounded))))

theorem crankStalls_big (now : Time) (s : State) : Big e s (crankStalls now s) := by
  have inSync : Big e s (stallInSync now s) := by
    unfold stallInSync
    split
    · exact enterCamOnly_big _ s
    · exact (enterStopped_big _).after (.chain (loseSync_chain 1 s))
  unfold crankStalls
  split
  · exact enterStopped_big s
  · exact enterStopped_big s
  · exact inSync
  · exact inSync
  · exact track_big (fun h _ => h) (fun _ => empty_bounded)
  · exact track_big (fun h _ => h) id

theorem camStalls_big (s : State) : Big e s (camStalls s) := by
  refine Big.ite ((enterStopped_big _).after (.chain (loseSync_chain 2 s))) (.track _ rfl fun h => ?_)
  exact h.of_cleared h.camStall rfl rfl rfl h.history rfl

end Sys2Proof.Machine

/-! PROOFS. What the commands can do: a row under one cycle number for each but ENTER_STANDBY and SOFT_RESET. -/

namespace Sys2Proof.Machine

open Sys2Proof.Safety

variable {e d : Prop}

/-- A state that differs in nothing that the invariants read. -/
structure Still (s t : State) : Prop where
  beside : Beside s t
  requests : t.queue.requests = s.queue.requests
  outputs : SameOutputs s t

theorem Still.refl (s : State) : Still s s := ⟨Beside.refl s, rfl, SameOutputs.refl s⟩

theorem Still.trans {s t u : State} (h : Still s t) (g : Still t u) : Still s u :=
  ⟨h.beside.trans g.beside, g.requests.trans h.requests, h.outputs.trans g.outputs⟩

theorem Still.ite {s t u : State} {c : Prop} [Decidable c] (h : Still s t) (g : Still s u) :
    Still s (if c then t else u) := by split <;> assumption

theorem Still.chain {s t : State} (h : Still s t) : Chain e d s t := .aside h.beside h.requests h.outputs

theorem setLink_still {s : State} {l : FramePort} (received : s.link.rx.length ≤ 64 → l.rx.length ≤ 64) :
    Still s (s.setLink l) :=
  ⟨⟨rfl, rfl, rfl, rfl, rfl, id, fun _ => id, fun _ => id, id, (setLink_samePlans s l).plansInOrder, id, id, id, received,
    id⟩, rfl, .of_eq (fun x => by cases x <;> rfl) rfl⟩

theorem setControl_still {s : State} {c : Control} (mode : c.mode = s.control.mode)
    (timebase : c.timebase = s.control.timebase) (wakeSource : c.wakeSource = s.control.wakeSource)
    (reference : s.control.refCount ≤ 1024 → c.refCount ≤ 1024) : Still s (s.setControl c) :=
  ⟨⟨rfl, rfl, mode, timebase, wakeSource, id, fun _ => id, fun _ => id, id, (setControl_samePlans s c).plansInOrder, id,
    id, id, id, reference⟩, rfl, .of_eq (fun x => by cases x <;> rfl) rfl⟩

theorem setQueue_still {s : State} {q : PulseQueue} (requests : q.requests = s.queue.requests)
    (limits : LimitsTimely s.queue.limits → LimitsTimely q.limits)
    (depth : s.queue.requests.length ≤ 16 ∧ s.queue.depthMark ≤ 16 → q.depthMark ≤ 16) :
    Still s { s with queue := q } :=
  ⟨⟨rfl, rfl, rfl, rfl, rfl, limits, fun _ => id, fun _ => id, id, SamePlans.plansInOrder ⟨rfl, rfl, rfl, rfl⟩, id,
    fun h => ⟨requests ▸ h.1, depth h⟩, id, id, id⟩, requests, .of_eq (fun x => by cases x <;> rfl) rfl⟩

/-! ### The ring -/

theorem repeatedCylinder_eq_none_iff {i : Nat} {seen : List Cylinder} {ring : List RingEntry} :
    repeatedCylinder i seen ring = none ↔
      ring.Pairwise (fun a b => a.cylinder ≠ b.cylinder) ∧ ∀ x ∈ ring, x.cylinder ∉ seen := by
  induction ring generalizing i seen with
  | nil => simp [repeatedCylinder]
  | cons x ring ih =>
    by_cases h : x.cylinder ∈ seen
    · simp [repeatedCylinder, h]
    · simp only [repeatedCylinder, List.contains_eq_mem, h, decide_false, Bool.false_eq_true, if_false, ih,
        List.pairwise_cons, List.mem_cons, not_or]
      constructor
      · rintro ⟨distinct, fresh⟩
        exact ⟨⟨fun y hy => Ne.symm (fresh y hy).1, distinct⟩, fun y hy => hy.elim (fun h' => h' ▸ h) fun hy => (fresh y hy).2⟩
      · exact fun ⟨⟨other, distinct⟩, fresh⟩ => ⟨distinct, fun y hy => ⟨Ne.symm (other y hy), fresh y (.inr hy)⟩⟩

theorem ring_distinct_of_ringFailure {lead : Nat} {ring : List RingEntry} {t : Store}
    (h : ringFailure lead ring t = none) : ring.Pairwise (fun a b => a.cylinder ≠ b.cylinder) := by
  unfold ringFailure at h
  split at h
  · cases h
  · exact (repeatedCylinder_eq_none_iff.mp ‹_›).1

theorem ownSetRing_big (p : List Byte) (s : State) : Big e s (ownSetRing p s).state := by
  have plans : PlansInOrder s → PlansInOrder (ownSetRing p s).state := ownSetRing_plansInOrder p
  revert plans
  unfold ownSetRing
  split
  · exact fun _ => Big.refl s
  · split
    · exact fun _ => Big.refl s
    · split
      · exact fun _ => Big.refl s
      · rename_i hpass
        exact fun plans => .chain (.aside ⟨rfl, rfl, rfl, rfl, rfl, id, fun _ => id, fun _ => id,
          fun _ => ring_distinct_of_ringFailure hpass, plans, id, id, id, id, id⟩ rfl
          (.of_eq (fun x => by cases x <;> rfl) rfl))

/-! ### The store -/

theorem stage_age (t : Store) (c : Cylinder) (es : List PlanEntry) : (t.stage c es).age = t.age := by
  unfold Store.stage
  cases otherBank t.active <;> rfl

theorem ownSetLimp_big (p : List Byte) (s : State) : Big e s (ownSetLimp p s).state := by
  have plans : PlansInOrder s → PlansInOrder (ownSetLimp p s).state := ownSetLimp_plansInOrder p
  revert plans
  unfold ownSetLimp
  split
  · exact fun _ => Big.refl s
  · exact fun plans => .chain (setStore_chain (fun h => h) plans)

theorem ownWritePlan_big (p : List Byte) (s : State) : Big e s (ownWritePlan p s).state := by
  have plans : PlansInOrder s → PlansInOrder (ownWritePlan p s).state := ownWritePlan_plansInOrder p
  revert plans
  unfold ownWritePlan
  split
  · exact fun _ => Big.refl s
  · split
    · exact fun _ => Big.refl s
    · exact fun _ => Big.refl s
    · exact fun plans => .chain (setStore_chain (fun h => by rw [stage_age]; exact h) plans)

theorem copyPlan_still (c : Cylinder) (s : State) : Still s (copyPlan c s) := by
  have plans : PlansInOrder s → PlansInOrder (copyPlan c s) := copyPlan_plansInOrder c
  have staged (es : List PlanEntry) : (s.setStore (s.store.stage c es)).store.age = s.store.age := stage_age _ _ _
  revert plans
  unfold copyPlan
  dsimp only
  split
  · exact fun plans => ⟨⟨rfl, rfl, rfl, rfl, rfl, id, fun _ => id, fun _ => id, id, plans, id, id,
      by rw [staged]; exact id, id, id⟩, rfl, .of_eq (fun x => by cases x <;> rfl) rfl⟩
  · exact fun plans => ⟨⟨rfl, rfl, rfl, rfl, rfl, id, fun _ => id, fun _ => id, id, plans, raise_sound _ _ _ _ _, id,
      by rw [raise_store, staged]; exact id, id, id⟩, rfl, .of_eq (fun x => by cases x <;> rfl) rfl⟩

theorem ownCopyActive_big (p : List Byte) (s : State) : Big e s (ownCopyActive p s).state := by
  refine withLength_keeps (Big.refl s) (answer_ite_keeps (Big.refl s) ?_)
  rw [answerOk_state]
  exact .chain (Chain.foldl (fun (u : State) (c : Cylinder) => (copyPlan_still c u).chain) allCylinders s)

/-! ### The other commands -/

theorem clearGroup_sound {u : NoticeUnit} (g : Nat) (h : u.Sound) : (clearGroup u g).Sound := by
  unfold clearGroup
  split <;> exact h

theorem removeOldest_sound {u : NoticeUnit} (n : Nat) (h : u.Sound) : (removeOldest u n).Sound :=
  ⟨by simp only [removeOldest, List.length_drop]; have := h.1; omega, rfl⟩

theorem limitsTimely_of_limitsFailure {p : List Byte} (h : limitsFailure p = none) : LimitsTimely (limitsOf p) := by
  unfold limitsFailure at h
  iterate 5
    split at h
    · cases h
  simp only [LimitsTimely, limitsOf]
  omega

theorem ownSetLimits_big (p : List Byte) (s : State) : Big e s (ownSetLimits p s).state := by
  refine withLength_keeps (Big.refl s) ?_
  dsimp only
  split
  · exact Big.refl s
  · rename_i hpass
    refine .chain (Chain.after (Chain.foldl (fun u c => separationElapses_chain c u) _ _) (Still.chain (setQueue_still rfl ?_ ?_)))
    · exact fun _ => limitsTimely_of_limitsFailure hpass
    · exact And.right

theorem ownSetFueling_big (p : List Byte) (s : State) : Big e s (ownSetFueling p s).state := by
  refine withLength_keeps (Big.refl s) ?_
  dsimp only
  split
  · exact Big.refl s
  · exact (Big.derive _ _).after (.chain ((judgeExpired_chain _).after ((judgeSpeed_chain _).after setFueling_chain)))

theorem camOf_stallTime {p : List Byte} {c : CamSettings} (h : camOf p = some c) : c.stallTime ≤ 16000000 := by
  unfold camOf at h
  split at h
  · split at h
    · cases h
      rename_i hr
      simp only [Bool.and_eq_true, decide_eq_true_eq] at hr
      show 4000 * u16 p 4 ≤ _
      omega
    · cases h
  · cases h

theorem ownSetCam_big (p : List Byte) (s : State) : Big e s (ownSetCam p s).state := by
  refine withLength_keeps (Big.refl s) (answer_ite_keeps (Big.refl s) ?_)
  split
  · exact Big.refl s
  · exact .track _ rfl fun h => h.of_cleared (camOf_stallTime ‹_›) rfl rfl rfl h.history rfl

theorem ownSetWheel_big (p : List Byte) (s : State) : Big e s (ownSetWheel p s).state := by
  refine withLength_keeps (Big.refl s) (answer_ite_keeps (Big.refl s) ?_)
  split
  · exact Big.refl s
  · exact track_big (fun h _ => h) id

theorem ownFlushCyl_big (p : List Byte) (s : State) : Big e s (ownFlushCyl p s).state := by
  refine withLength_keeps (Big.refl s) ?_
  dsimp only
  split
  · exact Big.refl s
  · rename_i c _
    have dropped : Chain e False s (dropWhere .flushed (flushReaches c) s) := dropWhere_chain _ (fun r h => by
      simp only [flushReaches, Bool.and_eq_true, Bool.not_eq_true'] at h; exact h.2) s
    refine answer_ite_keeps (Big.refl s) (answer_ite_keeps (.chain ?_) (.chain dropped))
    exact dropped.trans (setCyl_chain id id)

theorem ownReleaseBank_big (p : List Byte) (s : State) : Big e s (ownReleaseBank p s).state := by
  refine withLength_keeps (Big.refl s) ?_
  dsimp only
  split
  · exact Big.refl s
  · refine answer_ite_keeps (Big.refl s) (answer_ite_keeps (Big.refl s) (.chain ?_))
    exact (auction_chain _ _).after (setDrive_chain rfl rfl rfl)

theorem readMarks_still (s : State) : Still s { s with
    queue := { s.queue with depthMark := s.queue.requests.length }
    driveA := { s.driveA with waitMark := 0 }, driveB := { s.driveB with waitMark := 0 } } := by
  refine ⟨⟨rfl, rfl, rfl, rfl, rfl, id, fun _ => id, fun _ => id, id, SamePlans.plansInOrder ⟨rfl, rfl, rfl, rfl⟩, id,
    fun h => ⟨h.1, h.1⟩, id, id, id⟩, rfl, ?_⟩
  refine ⟨fun x => ?_, fun x => ?_, fun x => ?_, rfl⟩ <;> cases x <;> rfl

theorem setWake_still (s : State) (w : WakeEnables) (k : WarmupSel) :
    Still s (s.setControl { s.control with wakeEnables := w, warmupSel := k }) := setControl_still rfl rfl rfl id

/-- A command other than ENTER_STANDBY and SOFT_RESET runs under one cycle number, and no request enters. -/
theorem owner_big (c : Command) (p : List Byte) (s : State) (standby : c ≠ .enterStandby) (reset : c ≠ .softReset) :
    Big e s (owner c p s).state := by
  have same : Big e s s := Big.refl s
  cases c with
  | nop | ident | readAngle | readStatus => exact withLength_keeps same same
  | setWheel => exact ownSetWheel_big p s
  | setCam => exact ownSetCam_big p s
  | setRing => exact ownSetRing_big p s
  | setLimits => exact ownSetLimits_big p s
  | setFueling => exact ownSetFueling_big p s
  | setLimp => exact ownSetLimp_big p s
  | writePlan => exact ownWritePlan_big p s
  | copyActive => exact ownCopyActive_big p s
  | swap =>
    exact withLength_keeps same (answer_ite_keeps same (answer_ite_keeps (swapTakesEffect_big _ _ s)
      (.chain (setStore_chain (fun h => h) (SamePlans.plansInOrder ⟨rfl, rfl, rfl, rfl⟩)))))
  | cancelSwap =>
    refine withLength_keeps same ?_
    dsimp only
    split
    · exact same
    · exact .chain (setStore_chain (fun h => h) (SamePlans.plansInOrder ⟨rfl, rfl, rfl, rfl⟩))
  | readPlan => exact withLength_keeps same (answer_ite_keeps same (by split <;> exact same))
  | setCylMode =>
    refine withLength_keeps same ?_
    dsimp only
    split
    · exact .chain (setCyl_chain id id)
    · exact same
  | clearMask =>
    refine withLength_keeps same ?_
    dsimp only
    split
    · exact same
    · exact .chain (setCyl_chain (fun _ => Nat.zero_le _) id)
  | flushCyl => exact ownFlushCyl_big p s
  | arm | disarm => exact withLength_keeps same ((Big.derive _ _).after (.chain setFueling_chain))
  | fuelCut =>
    exact withLength_keeps same (answer_ite_keeps same ((Big.derive _ _).after (.chain setFueling_chain)))
  | releaseBank => exact ownReleaseBank_big p s
  | readShadow =>
    refine withLength_keeps same ?_
    split
    · exact same
    · split <;> exact same
  | readMarks => exact withLength_keeps same (.chain (readMarks_still s).chain)
  | readCounters =>
    exact withLength_keeps same (answer_ite_keeps same (answer_ite_keeps (.chain (setNotices_chain (clearGroup_sound _)))
      same))
  | readFault => exact withLength_keeps same (by split <;> exact same)
  | clearFault => exact withLength_keeps same (.chain (setNotices_chain id))
  | setNoticeMask => exact withLength_keeps same (.chain (setNotices_chain id))
  | fetchNotices => exact withLength_keeps same (answer_ite_keeps same (.chain (setNotices_chain (removeOldest_sound _))))
  | enterStandby => exact absurd rfl standby
  | setWake =>
    refine withLength_keeps same ?_
    dsimp only
    split
    · exact same
    · exact answer_ite_keeps same (.chain (setWake_still s _ _).chain)
  | softReset => exact absurd rfl reset

end Sys2Proof.Machine

/-! PROOFS. What a step can do: besides what a command in RUN can do, the modes change, time passes, and a reset or a
standby empties the part. -/

namespace Sys2Proof.Machine

open Sys2Proof.Safety

/-! ### Changes of nothing that the invariants read -/

theorem raise_still (k : NoticeKind) (u : Subject) (b : Option Bank) (h : Half) (s : State) :
    Still s (raise k u b h s) := ⟨raiseAt_beside _ _ _ _ _ _, rfl, .of_eq (fun x => by simp) rfl⟩

theorem lock_still (x : Bank) (s : State) : Still s (s.setDrive x { s.drive x with locked := true }) :=
  ⟨setDrive_beside s x _, by simp, setDrive_sameOutputs rfl rfl rfl⟩

theorem judgeLock_still (x : Bank) (s : State) : Still s (judgeLock x s) :=
  ((lock_still x s).trans (raise_still _ _ _ _ _)).ite (Still.refl s)

theorem noteWake_still (w : Option WakeSource) (s : State) : Still s (noteWake w s) :=
  match w with
  | none => Still.refl s
  | some _ => raise_still _ _ _ _ s

theorem noteNoReference_still (s : State) : Still s (noteNoReference s) := (raise_still _ _ _ _ s).ite (Still.refl s)

theorem pending_still (s : State) (xs : List Instr) (n : Nat) : Still s { s with pending := xs, freeIndex := n } :=
  ⟨⟨rfl, rfl, rfl, rfl, rfl, id, fun _ => id, fun _ => id, id, SamePlans.plansInOrder ⟨rfl, rfl, rfl, rfl⟩, id, id, id, id,
    id⟩, rfl, .of_eq (fun x => by cases x <;> rfl) rfl⟩

theorem pins_still (s : State) (p : Pins) : Still s { s with pins := p } :=
  ⟨⟨rfl, rfl, rfl, rfl, rfl, id, fun _ => id, fun _ => id, id, SamePlans.plansInOrder ⟨rfl, rfl, rfl, rfl⟩, id, id, id, id,
    id⟩, rfl, .of_eq (fun x => by cases x <;> rfl) rfl⟩

theorem setShort_still (s : State) (x : Bank) (b : Bool) : Still s (s.setShort x b) := by
  cases x <;> exact pins_still s _

theorem enqueue_still (xs : List Instr) (s : State) : Still s (enqueue xs s) :=
  (pending_still s _ s.freeIndex).ite (pending_still s _ _)

theorem openTransaction_still (t : Transaction) (m : Option (List Byte)) (s : State) :
    Still s (openTransaction t m s) := setLink_still fun _ => Nat.zero_le _

theorem closeTransaction_still (s : State) : Still s (closeTransaction s) := setLink_still fun _ => Nat.zero_le _

theorem startTurnaround_still (s : State) : Still s (startTurnaround s) := setLink_still id

theorem setReply_still (st : Status) (g : Byte) (p : List Byte) (s : State) : Still s (setReply st g p s) :=
  setLink_still id

theorem quietLink_still (s : State) : Still s (quietLink s) := setLink_still fun _ => Nat.zero_le _

theorem turnaroundExpires_still (s : State) : Still s (turnaroundExpires s) := by
  unfold turnaroundExpires
  split
  · exact Still.ite (setLink_still id) (Still.refl s)
  · exact Still.refl s

/-! ### Phases -/

/-- The end of a warm-up, before its notices (R198, steps 1 and 2). -/
def warmed (s : State) : State :=
  let u := judgeClock (if s.control.wakeSource.isSome then wakeValues s else s)
  u.setControl { u.control with mode := .run, timebase := 0, warmupLeft := 0, wakeSource := none }

/-- Both banks' occupants ended by ENTER_STANDBY (R195). -/
def standbyAborts (s : State) : State := abortByStandby .b (abortByStandby .a s)

/-- Both banks' occupants aborted by SOFT_RESET (R143). -/
def softAborts (s : State) : State := abortBySoftReset .b (abortBySoftReset .a s)

/-- What a step can do, but for changes of nothing that the invariants read. -/
inductive Phase : State → State → Prop
  | still (s : State) : Phase s s
  | runs {s t : State} (running : s.running = true) (rows : Rows s t) : Phase s t
  | tick {s : State} (running : s.running = true) (due : expiries s = []) : Phase s (tick s)
  | wake {s : State} (standby : s.control.mode = .standby) (w : WakeSource) : Phase s (beginWarmup (some w) s)
  | warmed {s : State} (warmup : s.control.mode = .warmup) : Phase s (warmed s)
  | held (s : State) : Phase s (heldInReset s)
  | leaves {s : State} (running : s.running = true) (accepted : standbyFailures s = 0) (c : Control)
      (mode : c.mode = .standby ∨ c.mode = .warmup ∧ c.wakeSource ≠ none)
      (reference : s.control.refCount ≤ 1024 → c.refCount ≤ 1024) : Phase s ((standbyAborts s).setControl c)
  | soft {s : State} (running : s.running = true) : Phase s (softValues (softAborts s))

/-- A step: one phase, between changes of nothing that the invariants read. -/
def Stepped (s t : State) : Prop := ∃ u v, Still s u ∧ Phase u v ∧ Still v t

theorem Phase.stepped {s t : State} (h : Phase s t) : Stepped s t := ⟨s, t, Still.refl s, h, Still.refl t⟩

theorem Still.stepped {s t : State} (h : Still s t) : Stepped s t := ⟨s, s, Still.refl s, .still s, h⟩

theorem Stepped.after {s t u : State} (h : Stepped t u) (g : Still s t) : Stepped s u :=
  let ⟨v, w, hv, hp, hw⟩ := h
  ⟨v, w, g.trans hv, hp, hw⟩

theorem Stepped.then {s t u : State} (h : Stepped s t) (g : Still t u) : Stepped s u :=
  let ⟨v, w, hv, hp, hw⟩ := h
  ⟨v, w, hv, hp, hw.trans g⟩

theorem Stepped.ite {s t u : State} {c : Prop} [Decidable c] (h : Stepped s t) (g : Stepped s u) :
    Stepped s (if c then t else u) := by split <;> assumption

/-- A row that runs under a condition that says, among others, that the part is in RUN. -/
theorem stepped_ite {s t : State} {c : Prop} [Decidable c] (running : c → s.running = true) (rows : Rows s t) :
    Stepped s (if c then t else s) := by
  split
  · exact (Phase.runs (running ‹_›) rows).stepped
  · exact (Phase.still s).stepped

/-! ### The commands -/

theorem ownEnterStandby_stepped (p : List Byte) {s : State} (running : s.running = true) :
    Stepped s (ownEnterStandby p s).state := by
  refine withLength_keeps (Still.refl s).stepped ?_
  dsimp only
  split
  · exact (Still.refl s).stepped
  · rename_i passed
    have accepted : standbyFailures s = 0 := by simpa using passed
    have control : (quietLink (standbyAborts s)).control = s.control :=
      ((abortByStandby_quiet .a s).trans (abortByStandby_quiet .b _)).control
    have left {c : Control} (mode : c.mode = .standby ∨ c.mode = .warmup ∧ c.wakeSource ≠ none)
        (reference : s.control.refCount ≤ 1024 → c.refCount ≤ 1024) :
        Stepped s ((quietLink (standbyAborts s)).setControl c) :=
      (Phase.leaves running accepted c mode reference).stepped.then (quietLink_still ((standbyAborts s).setControl c))
    refine answer_ite_keeps ?_ ?_
    · exact left (.inr ⟨rfl, nofun⟩) (fun _ => Nat.zero_le _)
    · refine left (.inl rfl) ?_
      show _ → (quietLink (standbyAborts s)).control.refCount ≤ 1024
      rw [control]
      exact id

theorem ownSoftReset_stepped (p : List Byte) {s : State} (running : s.running = true) :
    Stepped s (ownSoftReset p s).state :=
  withLength_keeps (Still.refl s).stepped ((Phase.soft running).stepped.then
    (((raise_still _ _ _ _ _).trans (judgeLock_still .a _)).trans (judgeLock_still .b _)))

theorem carryOut_stepped (tag : Byte) (c : Command) (p : List Byte) (s : State) :
    Stepped s (carryOut tag p (owner c) s) := by
  refine carryOut_keeps (Still.refl s).stepped (fun running => ?_) (fun u l hl h => h.then (setLink_still (by rw [hl]; exact id)))
  by_cases standby : c = .enterStandby
  · subst standby; exact ownEnterStandby_stepped p running
  by_cases reset : c = .softReset
  · subst reset; exact ownSoftReset_stepped p running
  exact (Phase.runs running (Run.rows (.big (owner_big c p s standby reset)))).stepped

theorem released_stepped (mosi : List Bool) (s : State) : Stepped s (released mosi s) := by
  have settled (u : State) (v : FrameVerdict) (n : Nat) : Stepped u (settleFrame v n u) := by
    cases v with
    | badLength => exact (setReply_still _ _ _ u).stepped
    | badCrc => exact (setReply_still _ _ _ u).stepped
    | unknownKind kind tag =>
      have tagged (w : State) : Still w (w.setLink { w.link with lastTag := tag }) := setLink_still (fun h => h)
      exact ((setReply_still _ _ _ u).trans (tagged _)).stepped
    | good c tag payload => exact carryOut_stepped tag c payload u
  have closed := closeTransaction_still s
  unfold released
  split
  · exact ((settled _ _ _).after (closed.trans (startTurnaround_still _))).ite closed.stepped
  · exact ((closed.trans (startTurnaround_still _)).ite closed).stepped
  · exact closed.stepped
  · exact closed.stepped
  · exact ((startTurnaround_still s).ite (Still.refl s)).stepped

/-! ### The events -/

theorem wakeBy_stepped (b : Bool) (w : WakeSource) (s : State) : Stepped s (wakeBy b w s) := by
  unfold wakeBy
  split
  · rename_i h
    simp only [Bool.and_eq_true, beq_iff_eq] at h
    exact (Phase.wake h.1 w).stepped
  · exact (Still.refl s).stepped

theorem fallJudged_stepped (s : State) : Stepped s (fallJudged s) := by
  unfold fallJudged
  split
  · exact (wakeBy_stepped _ _ _).after (openTransaction_still _ _ s)
  · exact (openTransaction_still _ _ s).stepped
  · exact ((openTransaction_still _ _ s).ite (openTransaction_still _ _ s)).stepped

theorem endWarmup_stepped {s : State} (warmup : s.control.mode = .warmup) : Stepped s (endWarmup s) :=
  (Phase.warmed warmup).stepped.then ((((noteWake_still s.control.wakeSource (warmed s)).trans
    (noteNoReference_still _)).trans (judgeLock_still .a _)).trans (judgeLock_still .b _))

theorem countGood_stepped (s : State) : Stepped s (countGood s) := by
  have counted : Still s (s.setControl { s.control with refCount := min 1024 (s.control.refCount + 1) }) :=
    setControl_still rfl rfl rfl fun _ => Nat.min_le_left _ _
  have switched (u : State) : Still u (u.setControl { u.control with clock := .reference }) := setControl_still rfl rfl rfl id
  refine Stepped.after (stepped_ite (fun h => ?_) (Run.rows (.big ((handClock_big _).after (.chain (switched _).chain))))) counted
  simp only [Bool.and_eq_true] at h
  exact h.1.1

theorem countBad_stepped (s : State) : Stepped s (countBad s) := by
  have counted : Still s (s.setControl { s.control with refCount := 0 }) :=
    setControl_still rfl rfl rfl fun _ => Nat.zero_le _
  have switched (u : State) : Still u (raise .clockLoss .absent none 0 (u.setControl { u.control with clock := .fallback })) :=
    Still.trans (setControl_still (by rfl) (by rfl) (by rfl) (by exact id)) (raise_still _ _ _ _ _)
  refine Stepped.after (stepped_ite (fun h => ?_) (Run.rows (.big ((handClock_big _).after (.chain (switched _).chain))))) counted
  simp only [Bool.and_eq_true] at h
  exact h.1

theorem startTimerExpires_big {e : Prop} (id : RequestId) (s : State) : Big e s (startTimerExpires id s) := by
  unfold startTimerExpires
  split
  · exact Big.refl s
  · rename_i r hr
    split
    · rename_i t armed start
      split
      · rename_i h
        exact .due .expiry (List.mem_of_find?_eq_some hr) ⟨.inr armed, .inr ⟨armed, start, h⟩⟩
      · exact Big.refl s
    · exact Big.refl s

theorem exec_event_stepped {i : Instr} {s t : State} (hi : i.frame? = none) (he : exec i s = .next t) : Stepped s t := by
  have quietly {u : State} (h : Big False s u) : Stepped s (if s.running then u else s) :=
    stepped_ite (fun h => h) (Run.rows (.big h))
  have same : Stepped s s := (Still.refl s).stepped
  cases i with
  | csNFall => cases he; exact same.ite (fallJudged_stepped s)
  | csNRelease mosi => cases he; exact released_stepped mosi s
  | turnaroundExpiry => cases he; exact (turnaroundExpires_still s).stepped.ite same
  | resetNLow => cases he; exact (Phase.held s).stepped
  | resetNRise =>
    cases he
    exact (Phase.held s).stepped.then ((pins_still (heldInReset s) _).trans (raise_still _ _ _ _ _))
  | warmupEnd =>
    cases he
    split
    · rename_i h
      simp only [Bool.and_eq_true, beq_iff_eq] at h
      exact endWarmup_stepped h.1
    · exact same
  | wakeLevelRise high =>
    cases he
    exact (wakeBy_stepped _ _ _).after (pins_still s _)
  | refclkCycle ps => cases he; exact ((countGood_stepped s).ite (countBad_stepped s)).ite same
  | refclkMissing => cases he; exact (countBad_stepped s).ite same
  | crankActiveEdge =>
    cases he
    split
    · exact (Phase.runs ‹_› (activeEdge_rows rfl)).stepped
    · exact wakeBy_stepped _ _ s
  | crankTrailingEdge =>
    cases he
    split
    · exact (Phase.runs ‹_› (trailingEdge_run _ s).rows).stepped
    · exact wakeBy_stepped _ _ s
  | crankStall =>
    cases he
    exact stepped_ite (fun h => by simp only [Bool.and_eq_true] at h; exact h.1) (Run.rows (.big (crankStalls_big _ s)))
  | camEdge => cases he; exact stepped_ite (fun h => h) (camEdgeAt_rows rfl)
  | camStall =>
    cases he
    exact stepped_ite (fun h => by simp only [Bool.and_eq_true] at h; exact h.1) (Run.rows (.big (camStalls_big s)))
  | startTimerExpiry id => cases he; exact quietly (startTimerExpires_big id s)
  | latenessExpiry id => cases he; exact quietly (.chain (lateness_chain id s))
  | peakRise x => cases he; exact quietly (.chain (peakRises_chain x s))
  | peakTimeoutAbort x => cases he; exact quietly (.chain (peakExpires_chain x s))
  | durationEnd x => cases he; exact quietly (.chain (durationEnds_chain x s))
  | shortAssertion x asserted =>
    cases he
    refine Stepped.after (stepped_ite (fun h => ?_) (Run.rows (.big (.chain (shortAsserted_chain x _)))))
      (setShort_still s x asserted)
    simp only [Bool.and_eq_true] at h
    exact h.1
  | rechargeComplete x => cases he; exact quietly (.chain (recharged_chain x s))
  | separationElapse c => cases he; exact quietly (.chain (separationElapses_chain c s))
  | lastEndInvalid c => cases he; exact quietly (.chain (lastEndExpires_chain c s))
  | _ => cases hi

/-! ### The part's own time -/

theorem idle_stepped (s : State) : Stepped s (idle s) := by
  unfold idle
  refine (Still.refl s).stepped.ite ?_
  split
  · rename_i run
    have running : s.running = true := by rw [State.running, run]; rfl
    unfold idleRun
    dsimp only
    split
    · rename_i due
      exact (Phase.tick running (List.isEmpty_iff.mp due)).stepped.then (enqueue_still _ _)
    · exact (enqueue_still _ s).stepped
  · unfold idleWarmup
    split
    · exact (pending_still s _ s.freeIndex).stepped
    · exact Still.stepped (setControl_still rfl rfl rfl id)
  · exact ((pending_still s _ s.freeIndex).ite (Still.refl s)).stepped

/-- Every step is one phase, between changes of nothing that the invariants read. -/
theorem step_stepped {s t : State} (hstep : step s = .next t) : Stepped s t := by
  unfold step at hstep
  split at hstep
  next =>
    cases hstep
    exact idle_stepped s
  next i rest _ =>
    have waits : Still s { s with pending := rest } := pending_still s rest s.freeIndex
    refine Stepped.after ?_ waits
    cases hi : i.frame? with
    | none => exact exec_event_stepped hi hstep
    | some f =>
      obtain ⟨c, tag, p⟩ := f
      rw [exec_of_frame hi] at hstep
      cases hstep
      exact carryOut_stepped tag c p _

/-- What the changes of nothing read keep, and every phase keeps, every step keeps. -/
theorem step_keeps_of_phase {P : State → Prop} {s t : State} (hstep : step s = .next t)
    (still : ∀ {u v}, Still u v → P u → P v) (phase : ∀ {u v}, Still s u → Phase u v → P u → P v) (hs : P s) : P t := by
  obtain ⟨u, v, hu, hp, hv⟩ := step_stepped hstep
  exact still hv (phase hu hp (still hu hs))

end Sys2Proof.Machine

/-! PROOFS. The bounds, and the outputs: what every small change keeps, and so every step. -/

namespace Sys2Proof.Machine

open Sys2Proof.Safety

/-! ### Keeping along a row -/

/-- A derivation replaces the fueling state, and what follows of it are small changes (R157, R158). -/
theorem deriveFueling_chain {e d : Prop} (c : FuelCause) (s : State) :
    Chain e d (s.setFueling { s.fueling with state := derivedState s.fueling }) (deriveFueling c s) := by
  unfold deriveFueling
  dsimp only
  split
  · rename_i same
    rw [same]
    exact Chain.refl s
  · split
    · exact (dropNonDriving_chain _ _).after (raise_chain _ _ _ _ _)
    · exact raise_chain _ _ _ _ _

/-- What the small changes, a new fueling state and a new tracker keep, every row under one cycle number keeps. -/
theorem Big.keeps {P : State → Prop} {e : Prop} {s t : State} (h : Big e s t)
    (atom : ∀ {u v}, Atom e True u v → P u → P v) (fuel : ∀ u f, P u → P (u.setFueling f))
    (track : ∀ (u : State) (k : Tracker), k.cycle = u.tracker.cycle →
      (TrackerTimely u.now u.tracker → TrackerTimely u.now k) → P u → P (u.setTracker k)) (hs : P s) : P t := by
  have chain {u v : State} (c : Chain e True u v) (hu : P u) : P v := by
    induction c with
    | refl => exact hu
    | tail _ a ih => exact atom a ih
  induction h with
  | chain h => exact chain (h.mono id False.elim) hs
  | due c present h => exact chain (becomeDue_chain c h) hs
  | together present armed time => exact chain (becomeDueTogether_chain armed time) hs
  | derive c s => exact chain (deriveFueling_chain c s) (fuel s _ hs)
  | track k cycle timely => exact track _ k cycle timely hs
  | trans _ _ ih ih' => exact ih' (ih hs)

/-- What an origin event's start keeps too, everything that a command in RUN can do keeps. -/
theorem Rows.keeps {P : State → Prop} {s t : State} (h : Rows s t) (atom : ∀ {u v}, Atom True True u v → P u → P v)
    (fuel : ∀ u f, P u → P (u.setFueling f))
    (track : ∀ (u : State) (k : Tracker), k.cycle = u.tracker.cycle →
      (TrackerTimely u.now u.tracker → TrackerTimely u.now k) → P u → P (u.setTracker k))
    (count : ∀ u, P u → P (counted u)) (hs : P s) : P t := by
  rcases h.enters with h | ⟨u, hu, h⟩
  · exact h.keeps atom fuel track hs
  · exact h.keeps atom fuel track (count u (hu.keeps atom fuel track hs))

/-! ### Bounds (O54) -/

theorem Beside.bounded {s t : State} (h : Beside s t) (hs : Bounded s) : Bounded t where
  notices := (h.notices ⟨hs.notices, hs.alert⟩).1
  alert := (h.notices ⟨hs.notices, hs.alert⟩).2
  requests := (h.depth ⟨hs.requests, hs.depthMark⟩).1
  depthMark := (h.depth ⟨hs.requests, hs.depthMark⟩).2
  age := h.age hs.age
  received := h.received hs.received
  reference := h.reference hs.reference
  failures c := h.failures c (hs.failures c)

theorem Rows.bounded {s t : State} (h : Rows s t) (hs : Bounded s) : Bounded t := by
  refine h.keeps (fun a => a.1.bounded) (fun u f hu => ?_) (fun u k _ _ hu => ?_) (fun u hu => ?_) hs
  · exact ⟨hu.notices, hu.alert, hu.requests, hu.depthMark, hu.age, hu.received, hu.reference, hu.failures⟩
  · exact ⟨hu.notices, hu.alert, hu.requests, hu.depthMark, hu.age, hu.received, hu.reference, hu.failures⟩
  · refine ⟨hu.notices, hu.alert, hu.requests, hu.depthMark, hu.age, hu.received, hu.reference, fun c => ?_⟩
    simpa [counted, clearPlanned, State.cyl] using hu.failures c

theorem standbyAborts_chain {e d : Prop} (s : State) : Chain e d s (standbyAborts s) :=
  (abortByStandby_chain .b _).after (abortByStandby_chain .a s)

theorem softAborts_chain {e d : Prop} (s : State) : Chain e d s (softAborts s) :=
  (abortBySoftReset_chain .b _).after (abortBySoftReset_chain .a s)

theorem warmed_bounded {s : State} (hs : Bounded s) : Bounded (warmed s) := by
  unfold warmed
  cases s.control.wakeSource.isSome with
  | false => exact ⟨hs.notices, hs.alert, hs.requests, hs.depthMark, hs.age, hs.received, hs.reference, hs.failures⟩
  | true =>
    refine ⟨hs.notices, hs.alert, Nat.zero_le _, hs.depthMark, hs.age, Nat.zero_le _, hs.reference, fun c => ?_⟩
    simpa [judgeClock, wakeValues, State.cyl] using hs.failures c

theorem Phase.bounded {s t : State} (h : Phase s t) (hs : Bounded s) : Bounded t := by
  cases h with
  | still => exact hs
  | runs _ rows => exact rows.bounded hs
  | tick => exact ⟨hs.notices, hs.alert, hs.requests, hs.depthMark, hs.age, hs.received, hs.reference, hs.failures⟩
  | wake =>
    exact ⟨hs.notices, hs.alert, hs.requests, hs.depthMark, hs.age, hs.received, Nat.zero_le _, hs.failures⟩
  | warmed => exact warmed_bounded hs
  | held =>
    refine ⟨Nat.zero_le _, rfl, Nat.zero_le _, Nat.zero_le _, Nat.zero_le _, Nat.zero_le _, Nat.zero_le _, fun c => ?_⟩
    simp [heldInReset, State.reset, State.cyl, CylState.reset]
  | leaves _ _ c _ reference =>
    have h := (standbyAborts_chain (e := False) (d := False) s).beside.bounded hs
    exact ⟨h.notices, h.alert, h.requests, h.depthMark, h.age, h.received, reference hs.reference, h.failures⟩
  | soft =>
    have h := (softAborts_chain (e := False) (d := False) s).beside.bounded hs
    refine ⟨Nat.zero_le _, rfl, Nat.zero_le _, h.depthMark, Nat.zero_le _, Nat.zero_le _, h.reference, fun c => ?_⟩
    simp [softValues, State.cyl]

/-- Settles O54: every record of the part is raised through an operation that stops at its bound, and is given up or
set back by the others. -/
theorem everyStepKeepsTheBounds : Obligations.EveryStepKeepsTheBounds := fun _ _ hs hstep =>
  step_keeps_of_phase hstep (fun h => h.beside.bounded) (fun _ h hu => h.bounded hu) hs

end Sys2Proof.Machine

/-! PROOFS. The outputs follow the driving requests: most changes leave the driving requests and the outputs alone, and
a grant, an end of boost and an end of a pulse change both in step. -/

namespace Sys2Proof.Machine

open Sys2Proof.Safety

/-- The driving requests, on any bank. -/
def driven (s : State) : List Request := s.queue.requests.filter (fun r => driving r.state)

/-- The outputs of the power stage are those of a list of driving requests, which holds each bank and each cylinder
once. -/
structure Follows (l : List Request) (s : State) : Prop where
  banks : (l.map (·.bank)).Nodup
  cylinders : (l.map (·.cylinder)).Nodup
  boost : ∀ x, (s.drive x).boostOut = l.any (fun r => r.bank == x && r.state == .boost)
  hold : ∀ x, (s.drive x).holdOut = l.any (fun r => r.bank == x && r.state == .hold)
  pulse : ∀ x, (s.drive x).pulse.isSome = l.any (fun r => r.bank == x)
  sel : ∀ c, s.sel.get c = l.any (fun r => r.cylinder == c)

theorem length_filter_le_one_iff {α : Type} [DecidableEq α] (f : Request → α) (l : List Request) :
    (∀ x, (l.filter (fun r => f r == x)).length ≤ 1) ↔ (l.map f).Nodup := by
  rw [List.nodup_iff_count_le_one]
  refine forall_congr' fun x => ?_
  rw [List.count_eq_countP, List.countP_map, List.countP_eq_length_filter]
  rfl

theorem drivers_eq (x : Bank) (s : State) : drivers x s = (driven s).filter (fun r => r.bank == x) := by
  simp only [drivers, driven, List.filter_filter]

theorem driversOf_eq (c : Cylinder) (s : State) : driversOf c s = (driven s).filter (fun r => r.cylinder == c) := by
  simp only [driversOf, driven, List.filter_filter]

theorem any_driven {p q : Request → Bool} (h : ∀ r, p r = (driving r.state && q r)) (s : State) :
    s.queue.requests.any p = (driven s).any q := by
  rw [driven, List.any_filter, funext h]

theorem cylDriving_eq (c : Cylinder) (s : State) : cylDriving c s = (driven s).any (fun r => r.cylinder == c) :=
  any_driven (fun _ => Bool.and_comm _ _) s

theorem drives_boost_eq (x : Bank) (s : State) :
    drives x .boost s = (driven s).any (fun r => r.bank == x && r.state == .boost) :=
  any_driven (fun r => by cases r.state <;> simp [driving]) s

theorem drives_hold_eq (x : Bank) (s : State) :
    drives x .hold s = (driven s).any (fun r => r.bank == x && r.state == .hold) :=
  any_driven (fun r => by cases r.state <;> simp [driving]) s

theorem drives_or_eq (x : Bank) (s : State) :
    (drives x .boost s || drives x .hold s) = (driven s).any (fun r => r.bank == x) := by
  have both (l : List Request) : (l.any (fun r => r.bank == x && r.state == .boost) ||
      l.any (fun r => r.bank == x && r.state == .hold)) =
      l.any (fun r => r.bank == x && (r.state == .boost || r.state == .hold)) := by
    rw [Bool.eq_iff_iff]
    simp only [Bool.or_eq_true, List.any_eq_true, Bool.and_eq_true, ← exists_or, ← and_or_left]
  rw [drives, drives, both]
  exact any_driven (fun r => by cases r.state <;> simp [driving]) s

theorem outputsFollow_iff {s : State} :
    OutputsFollow s ↔ Follows (driven s) s ∧ (s.running = false → driven s = []) := by
  have none : (∀ x, drivers x s = []) ↔ driven s = [] := by
    simp only [drivers_eq, List.filter_eq_nil_iff]
    refine ⟨fun h => List.eq_nil_iff_forall_not_mem.mpr fun r hr => h r.bank r hr (by simp), fun h x => ?_⟩
    rw [h]
    exact List.forall_mem_nil _
  constructor
  · intro h
    refine ⟨⟨?_, ?_, fun x => ?_, fun x => ?_, fun x => ?_, fun c => ?_⟩, fun hr => none.mp (h.idle hr)⟩
    · exact (length_filter_le_one_iff _ _).mp fun x => drivers_eq x s ▸ h.oneOfBank x
    · exact (length_filter_le_one_iff _ _).mp fun c => driversOf_eq c s ▸ h.oneOfCylinder c
    · rw [h.boost, drives_boost_eq]
    · rw [h.hold, drives_hold_eq]
    · rw [h.pulse, drives_or_eq]
    · rw [h.sel, cylDriving_eq]
  · rintro ⟨h, idle⟩
    refine ⟨fun x => ?_, fun c => ?_, fun x => ?_, fun x => ?_, fun x => ?_, fun c => ?_, fun hr => none.mpr (idle hr)⟩
    · rw [drivers_eq]; exact (length_filter_le_one_iff _ _).mpr h.banks x
    · rw [driversOf_eq]; exact (length_filter_le_one_iff _ _).mpr h.cylinders c
    · rw [h.boost, drives_boost_eq]
    · rw [h.hold, drives_hold_eq]
    · rw [h.pulse, drives_or_eq]
    · rw [h.sel, cylDriving_eq]

/-! ### Changes of the driving requests -/

theorem Follows.perm {l m : List Request} {s : State} (p : m.Perm l) (h : Follows l s) : Follows m s where
  banks := (p.map _).nodup_iff.mpr h.banks
  cylinders := (p.map _).nodup_iff.mpr h.cylinders
  boost x := by rw [h.boost, p.any_eq]
  hold x := by rw [h.hold, p.any_eq]
  pulse x := by rw [h.pulse, p.any_eq]
  sel c := by rw [h.sel, p.any_eq]

theorem Follows.same {l : List Request} {s t : State} (o : SameOutputs s t) (h : Follows l s) : Follows l t where
  banks := h.banks
  cylinders := h.cylinders
  boost x := by rw [o.boost, h.boost]
  hold x := by rw [o.hold, h.hold]
  pulse x := by rw [o.pulse, h.pulse]
  sel c := by rw [o.sel, h.sel]

/-- A driving request enters a list whose others drive another bank and another cylinder. -/
theorem Follows.add {l : List Request} {s t : State} {r : Request} {sel : Eight Bool} {b h p : Bool}
    (bank : ∀ a ∈ l, a.bank ≠ r.bank) (cylinder : ∀ a ∈ l, a.cylinder ≠ r.cylinder)
    (hb : b = (r.state == .boost)) (hh : h = (r.state == .hold)) (hp : p = true)
    (hsel : sel = s.sel.set r.cylinder true) (o : OutputsSet r.bank b h p sel s t) (hs : Follows l s) :
    Follows (r :: l) t := by
  have away {q : Request → Bool} : l.any (fun a => a.bank == r.bank && q a) = false := by
    rw [List.any_eq_false]
    intro a ha
    simp [bank a ha]
  have here : l.any (fun a => a.bank == r.bank) = false := by simpa using away (q := fun _ => true)
  refine ⟨?_, ?_, fun x => ?_, fun x => ?_, fun x => ?_, fun c => ?_⟩
  · simpa [hs.banks] using bank
  · simpa [hs.cylinders] using cylinder
  all_goals rw [List.any_cons]
  · by_cases hx : x = r.bank
    · rw [hx, o.boost, away, hb]; simp
    · rw [(o.other x hx).1, hs.boost]; simp [Ne.symm hx]
  · by_cases hx : x = r.bank
    · rw [hx, o.hold, away, hh]; simp
    · rw [(o.other x hx).2.1, hs.hold]; simp [Ne.symm hx]
  · by_cases hx : x = r.bank
    · rw [hx, o.pulse, here, hp]; simp
    · rw [(o.other x hx).2.2, hs.pulse]; simp [Ne.symm hx]
  · rw [o.sel, hsel]
    by_cases hc : c = r.cylinder
    · simp [hc]
    · rw [Eight.get_set_other _ _ hc, hs.sel]; simp [Ne.symm hc]

/-- The others of a list drive another bank and another cylinder. -/
theorem Follows.others {l : List Request} {s : State} {o : Request} (h : Follows (o :: l) s) :
    (∀ a ∈ l, a.bank ≠ o.bank) ∧ ∀ a ∈ l, a.cylinder ≠ o.cylinder := by
  have banks := h.banks
  have cylinders := h.cylinders
  simp only [List.map_cons, List.nodup_cons, List.mem_map, not_exists, not_and] at banks cylinders
  exact ⟨banks.1, cylinders.1⟩

/-- A driving request leaves, and its outputs go off. -/
theorem Follows.remove {l : List Request} {s t : State} {r : Request}
    (o : OutputsSet r.bank false false false (s.sel.set r.cylinder false) s t) (hs : Follows (r :: l) s) :
    Follows l t := by
  obtain ⟨bank, cylinder⟩ := hs.others
  have away {q : Request → Bool} : l.any (fun a => a.bank == r.bank && q a) = false := by
    rw [List.any_eq_false]
    intro a ha
    simp [bank a ha]
  have here : l.any (fun a => a.bank == r.bank) = false := by simpa using away (q := fun _ => true)
  refine ⟨(List.nodup_cons.mp hs.banks).2, (List.nodup_cons.mp hs.cylinders).2, fun x => ?_, fun x => ?_, fun x => ?_,
    fun c => ?_⟩
  · by_cases hx : x = r.bank
    · rw [hx, o.boost, away]
    · rw [(o.other x hx).1, hs.boost]; simp [Ne.symm hx]
  · by_cases hx : x = r.bank
    · rw [hx, o.hold, away]
    · rw [(o.other x hx).2.1, hs.hold]; simp [Ne.symm hx]
  · by_cases hx : x = r.bank
    · rw [hx, o.pulse, here]
    · rw [(o.other x hx).2.2, hs.pulse]; simp [Ne.symm hx]
  · rw [o.sel]
    by_cases hc : c = r.cylinder
    · rw [hc, Eight.get_set_same, eq_comm, List.any_eq_false]
      intro a ha
      simpa using cylinder a ha
    · rw [Eight.get_set_other _ _ hc, hs.sel]; simp [Ne.symm hc]

/-! ### The small changes -/

theorem filter_erase_of_neg {p : Request → Bool} {r : Request} (h : p r = false) (l : List Request) :
    (l.erase r).filter p = l.filter p := by
  induction l with
  | nil => rfl
  | cons a l ih =>
    by_cases ha : a = r
    · subst ha; simp [h]
    · rw [List.erase_cons_tail (by simpa using ha), List.filter_cons, List.filter_cons, ih]

theorem driven_insert_of_idle {r : Request} (h : driving r.state = false) (l : List Request) :
    ((insertRequest r l).filter (fun r => driving r.state)).Perm (l.filter (fun r => driving r.state)) := by
  refine ((insertRequest_perm r l).filter _).trans ?_
  rw [List.filter_cons_of_neg (by simp [h])]

theorem driven_moveRequest {r r' : Request} {s : State} (h : driving r.state = false) (h' : driving r'.state = false) :
    (driven (moveRequest r r' s)).Perm (driven s) := by
  unfold moveRequest
  split
  · refine (driven_insert_of_idle h' _).trans ?_
    rw [filter_erase_of_neg h]
    exact List.Perm.refl _
  · exact List.Perm.refl _

theorem driving_atTooth (w : Wheel) (ev : ToothEvent) (r : Request) :
    driving (r.atTooth w ev).state = driving r.state ∧ (driving r.state = true → r.atTooth w ev = r) := by
  unfold Request.atTooth
  cases h : r.state with
  | planned => dsimp only; split <;> simp [Request.anchor, driving]
  | armed | due | boost | hold => simp [driving, h]

/-- A filter looks through a map that changes nothing the filter takes. -/
theorem filter_map_of_fixed {p : Request → Bool} {f : Request → Request}
    (h : ∀ r, p (f r) = p r ∧ (p r = true → f r = r)) (l : List Request) : (l.map f).filter p = l.filter p := by
  rw [List.filter_map, show p ∘ f = p from funext fun r => (h r).1]
  exact (List.map_congr_left fun r hr => (h r).2 (List.mem_filter.mp hr).2).trans (List.map_id _)

theorem driven_atTooth (w : Wheel) (ev : ToothEvent) (l : List Request) :
    (l.map (fun r => r.atTooth w ev)).filter (fun r => driving r.state) = l.filter (fun r => driving r.state) :=
  filter_map_of_fixed (fun r => driving_atTooth w ev r) l

/-- The driving requests without one of them. -/
theorem driven_perm_cons_erase {o : Request} {s : State} (present : o ∈ s.queue.requests)
    (drives : driving o.state = true) :
    (driven s).Perm (o :: (s.queue.requests.erase o).filter (fun r => driving r.state)) := by
  refine ((List.perm_cons_erase present).filter _).trans ?_
  rw [List.filter_cons_of_pos (p := fun r : Request => driving r.state) drives]

theorem Eight.set_false_set_true {l : Eight Bool} {c : Cylinder} (h : l.get c = true) :
    (l.set c false).set c true = l := by
  obtain ⟨_, _, _, _, _, _, _, _⟩ := l
  cases c <;> simp_all [Eight.set, Eight.get]

/-- The peak of a pulse: its request enters HOLD, BOOST_x goes off and HOLD_x on (R133). -/
theorem Follows.toHold {l : List Request} {s t : State} {o : Request}
    (outputs : OutputsSet o.bank false true (s.drive o.bank).pulse.isSome s.sel s t) (hs : Follows (o :: l) s) :
    Follows ({ o with state := .hold } :: l) t := by
  have off := outputsOff_outputsSet o.bank o.cylinder s
  have driven : s.sel.get o.cylinder = true := by rw [hs.sel]; simp
  obtain ⟨bank, cylinder⟩ := hs.others
  refine Follows.add (r := { o with state := .hold }) bank cylinder rfl rfl ?_ ?_ (s := outputsOff o.bank o.cylinder s)
    ⟨outputs.boost, outputs.hold, outputs.pulse, fun y hy => ?_, outputs.sel⟩ (hs.remove off)
  · rw [hs.pulse]; simp
  · rw [off.sel]
    exact (Eight.set_false_set_true driven).symm
  · obtain ⟨hb, hh, hp⟩ := off.other y hy
    rw [hb, hh, hp]
    exact outputs.other y hy

/-- The driving requests when one of them enters HOLD. -/
theorem filter_map_hold {o : Request} (drives : driving o.state = true) (l : List Request) :
    (l.map (fun r => if r = o then { r with state := .hold } else r)).filter (fun r => driving r.state) =
      (l.filter (fun r => driving r.state)).map (fun r => if r = o then { r with state := .hold } else r) := by
  rw [List.filter_map]
  congr 2
  funext r
  by_cases h : r = o
  · rw [Function.comp, if_pos h, h, drives]
    rfl
  · rw [Function.comp, if_neg h]

/-- A small change keeps the outputs those of the driving requests. -/
theorem Atom.follows {e d : Prop} {s t : State} (a : Atom e d s t) (hs : Follows (driven s) s) :
    Follows (driven t) t := by
  obtain ⟨-, change⟩ := a
  -- a change of neither the driving requests nor the outputs
  have quietly (p : (driven t).Perm (driven s)) (o : SameOutputs s t) : Follows (driven t) t := (hs.perm p).same o
  cases change with
  | none requests outputs => exact quietly (by rw [driven, requests]; exact List.Perm.refl _) outputs
  | drop r still requests outputs =>
    exact quietly (by rw [driven, requests, filter_erase_of_neg still]; exact List.Perm.refl _) outputs
  | waits r due requests outputs =>
    refine quietly ?_ outputs
    rw [driven, requests]
    exact driven_moveRequest (by rw [due]; rfl) (by rw [Request.waits, due]; rfl)
  | due _ r time cause becomes requests outputs =>
    refine quietly ?_ outputs
    rw [driven, requests]
    exact driven_moveRequest (by rcases becomes.waits with h | h <;> rw [h] <;> rfl) rfl
  | enter _ r enters requests outputs =>
    refine quietly ?_ outputs
    rw [driven, requests]
    exact driven_insert_of_idle (by rcases enters.start with h | h <;> [rw [h]; rw [h.1]] <;> rfl) _
  | tooth ev present requests outputs =>
    exact quietly (by rw [driven, requests, driven_atTooth]; exact List.Perm.refl _) outputs
  | grant x r candidate requests outputs =>
    obtain ⟨isOpen, waits, free⟩ := mem_candidates candidate
    obtain ⟨present, bank, due, -⟩ := mem_waiting.mp waits
    subst bank
    have empty : ∀ a ∈ driven s, a.bank ≠ r.bank := by
      simp only [bankOpen, Bool.and_eq_true, Option.isNone_iff_eq_none] at isOpen
      intro a ha
      obtain ⟨mem, drives⟩ := List.mem_filter.mp ha
      have := occupant_none isOpen.1.1.2 a mem
      simp_all
    have idle : ∀ a ∈ driven s, a.cylinder ≠ r.cylinder := by
      simp only [cylFree, Bool.and_eq_true, Bool.not_eq_true', cylDriving_eq, List.any_eq_false, beq_iff_eq] at free
      exact free.1
    have off : (s.drive r.bank).holdOut = false := by
      rw [hs.hold, List.any_eq_false]
      intro a ha
      simp [empty a ha]
    have entered : (driven t).Perm ({ r with state := .boost, lateExpiry := none } :: driven s) := by
      rw [driven, requests, driven, ← filter_erase_of_neg (r := r) (by rw [due]; rfl) s.queue.requests]
      exact (insertRequest_perm _ _).filter _
    exact (hs.add (r := { r with state := .boost, lateExpiry := none }) empty idle rfl off rfl rfl outputs).perm entered
  | ended x o present bank drives requests outputs =>
    subst bank
    have left : driven t = (s.queue.requests.erase o).filter (fun r => driving r.state) := by rw [driven, requests]
    exact left ▸ (hs.perm (driven_perm_cons_erase present drives).symm).remove outputs
  | peak x o present bank boost requests outputs =>
    subst bank
    have drives : driving o.state = true := by rw [boost]; rfl
    have split := driven_perm_cons_erase present drives
    have others := hs.perm split.symm
    have kept : ((s.queue.requests.erase o).filter (fun r => driving r.state)).map
        (fun r => if r = o then { r with state := .hold } else r) =
        (s.queue.requests.erase o).filter (fun r => driving r.state) := by
      refine (List.map_congr_left fun a ha => if_neg ?_).trans (List.map_id _)
      exact fun h => others.others.1 a ha (by rw [h])
    have entered : (driven t).Perm ({ o with state := .hold } ::
        (s.queue.requests.erase o).filter (fun r => driving r.state)) := by
      have mapped := split.map (fun r => if r = o then { r with state := .hold } else r)
      rw [List.map_cons, if_pos rfl, kept] at mapped
      rw [driven, requests, filter_map_hold drives]
      exact mapped
    exact (others.toHold outputs).perm entered

theorem Chain.follows {e d : Prop} {s t : State} (c : Chain e d s t) (hs : Follows (driven s) s) :
    Follows (driven t) t := by
  induction c with
  | refl => exact hs
  | tail _ a ih => exact a.follows ih

theorem Rows.running {s t : State} (h : Rows s t) : t.running = s.running := by
  rcases h.enters with h | ⟨u, hu, h⟩
  · exact h.running
  · exact h.running.trans hu.running

theorem Rows.follows {s t : State} (h : Rows s t) (hs : Follows (driven s) s) : Follows (driven t) t := by
  have blind {u v : State} (hd : ∀ x, v.drive x = u.drive x) (hl : v.sel = u.sel)
      (hr : v.queue.requests = u.queue.requests) (hu : Follows (driven u) u) : Follows (driven v) v := by
    have : driven v = driven u := by rw [driven, hr, driven]
    rw [this]
    exact hu.same (.of_eq hd hl)
  refine h.keeps (P := fun u => Follows (driven u) u) (fun a => a.follows) (fun u f => ?_) (fun u k _ _ => ?_) (fun u => ?_) hs
  all_goals exact blind (fun x => by cases x <;> rfl) rfl rfl

/-! ### Phases -/

/-- A part that drives nothing, its outputs off. -/
theorem outputsFollow_of_empty {s : State} (empty : driven s = [])
    (off : ∀ x, (s.drive x).boostOut = false ∧ (s.drive x).holdOut = false ∧ (s.drive x).pulse = none)
    (sel : ∀ c, s.sel.get c = false) : OutputsFollow s := by
  refine outputsFollow_iff.mpr ⟨?_, fun _ => empty⟩
  rw [empty]
  exact ⟨List.nodup_nil, List.nodup_nil, fun x => (off x).1, fun x => (off x).2.1, fun x => by rw [(off x).2.2]; rfl, sel⟩

/-- The outputs stand as they are, and so do the driving requests. -/
theorem Follows.outputsFollow {s t : State} (hs : Follows (driven s) s) (requests : t.queue.requests = s.queue.requests)
    (outputs : SameOutputs s t) (idle : t.running = false → driven s = []) : OutputsFollow t := by
  have same : driven t = driven s := by rw [driven, requests, driven]
  exact outputsFollow_iff.mpr ⟨same ▸ hs.same outputs, fun h => same ▸ idle h⟩

theorem Still.outputsFollow {s t : State} (h : Still s t) (hs : OutputsFollow s) : OutputsFollow t :=
  let ⟨follows, idle⟩ := outputsFollow_iff.mp hs
  follows.outputsFollow h.requests h.outputs fun hr => idle (h.beside.running ▸ hr)

theorem warmed_outputsFollow {s : State} (warmup : s.control.mode = .warmup) (hs : OutputsFollow s) :
    OutputsFollow (warmed s) := by
  obtain ⟨follows, idle⟩ := outputsFollow_iff.mp hs
  have empty := idle (by rw [State.running, warmup]; rfl)
  unfold warmed
  cases s.control.wakeSource.isSome with
  | false => exact follows.outputsFollow rfl (.of_eq (fun x => by cases x <;> rfl) rfl) fun _ => empty
  | true => exact outputsFollow_of_empty rfl (fun x => by cases x <;> exact ⟨rfl, rfl, rfl⟩) (Eight.get_all false)

theorem abortByStandby_requests {x : Bank} {o : Request} {s : State} (ho : occupant x s = some o) :
    (abortByStandby x s).queue.requests = s.queue.requests.erase o := by
  unfold abortByStandby
  rw [ho]
  dsimp only
  rw [dropRequest_requests, ((outputsOff_ending x o.cylinder s).reportEnd _ _).requests]

/-- ENTER_STANDBY leaves a bank without a driving request (R195). -/
theorem abortByStandby_clears {x : Bank} {s : State} (hs : Follows (driven s) s) :
    ∀ a ∈ driven (abortByStandby x s), a ∈ driven s ∧ a.bank ≠ x := by
  intro a ha
  cases ho : occupant x s with
  | none =>
    have same : abortByStandby x s = s := by rw [abortByStandby, ho]
    rw [same] at ha
    obtain ⟨mem, drives⟩ := List.mem_filter.mp ha
    exact ⟨ha, fun h => by simp [occupant_none ho a mem h] at drives⟩
  | some o =>
    obtain ⟨present, bank, drives⟩ := occupant_some ho
    subst bank
    have split := driven_perm_cons_erase present drives
    rw [driven, abortByStandby_requests ho] at ha
    exact ⟨split.mem_iff.mpr (List.mem_cons_of_mem _ ha), (hs.perm split.symm).others.1 a ha⟩

theorem driven_standbyAborts {s : State} (hs : Follows (driven s) s) : driven (standbyAborts s) = [] := by
  refine List.eq_nil_iff_forall_not_mem.mpr fun r hr => ?_
  have first : Follows (driven (abortByStandby .a s)) (abortByStandby .a s) :=
    (abortByStandby_chain (e := False) (d := False) .a s).follows hs
  obtain ⟨mem, notB⟩ := abortByStandby_clears first r hr
  obtain ⟨-, notA⟩ := abortByStandby_clears hs r mem
  cases hb : r.bank with
  | a => exact notA hb
  | b => exact notB hb

theorem Phase.outputsFollow {s t : State} (h : Phase s t) (hs : OutputsFollow s) : OutputsFollow t := by
  obtain ⟨follows, idle⟩ := outputsFollow_iff.mp hs
  cases h with
  | still => exact hs
  | runs running rows =>
    refine outputsFollow_iff.mpr ⟨rows.follows follows, fun hr => ?_⟩
    rw [rows.running, running] at hr
    cases hr
  | tick running =>
    exact follows.outputsFollow rfl (.of_eq (fun x => by cases x <;> rfl) rfl) fun hr => idle hr
  | wake standby =>
    exact follows.outputsFollow rfl (.of_eq (fun x => by cases x <;> rfl) rfl) fun _ =>
      idle (by rw [State.running, standby]; rfl)
  | warmed warmup => exact warmed_outputsFollow warmup hs
  | held => exact outputsFollow_of_empty rfl (fun x => by cases x <;> exact ⟨rfl, rfl, rfl⟩) (Eight.get_all false)
  | leaves _ _ c =>
    exact ((standbyAborts_chain (e := False) (d := False) s).follows follows).outputsFollow rfl
      (.of_eq (fun x => by cases x <;> rfl) rfl) fun _ => driven_standbyAborts follows
  | soft => exact outputsFollow_of_empty rfl (fun x => by cases x <;> exact ⟨rfl, rfl, rfl⟩) (Eight.get_all false)

/-- Settles O55: the outputs are those of the driving requests, which hold each bank and each cylinder once. -/
theorem everyStepKeepsOutputsFollowing : Obligations.EveryStepKeepsOutputsFollowing := fun _ _ hs hstep =>
  step_keeps_of_phase hstep Still.outputsFollow (fun _ => Phase.outputsFollow) hs

end Sys2Proof.Machine

/-! PROOFS. The timers stay within their limits: what a single change keeps of them in RUN, that no DUE request is left
out of its waiting set at the end of a command, and that requests that do not drive wait only where the fueling state
injects. -/

namespace Sys2Proof.Machine

open Sys2Proof.Safety

/-! ### Times -/

theorem elapsed_later {t now : Time} {n : Nat} (hn : n < 2 ^ 32) :
    elapsed (later t n) now = (elapsed t now + 2 ^ 32 - n) % 2 ^ 32 := by
  simp only [elapsed, later]
  bv_omega

/-- A start a bounded delay away is reached at once only where the delay is 0. -/
theorem eq_of_reached_later {now : Time} {n : Nat} (hn : n < 2 ^ 31) (h : reached (later now n) now = true) :
    later now n = now := by
  simp only [reached, decide_eq_true_eq] at h
  have zero : n = 0 := by
    rw [elapsed_later (by omega), elapsed_self] at h
    omega
  rw [zero]
  simp [later]

/-! ### What a single change keeps, in RUN -/

/-- The timers of a request within their limits, in RUN; a DUE request may not have been handed over yet. -/
structure RequestPaced (now : Time) (r : Request) : Prop where
  lateness : r.lateness ≤ 8000
  armed : r.state = .armed → ∃ t, r.scheduledStart = some t ∧ (reached t now = true → t = now)
  due : r.state = .due → ∃ t, r.dueTime = some t ∧ (r.lateExpiry = none ∨ r.lateExpiry = some (later t r.lateness)) ∧
    elapsed t now ≤ r.lateness

/-- The timers within their limits, in RUN; a DUE request may not have been handed over yet. -/
structure Paced (s : State) : Prop where
  tracker : TrackerTimely s.now s.tracker
  limits : LimitsTimely s.queue.limits
  requests : ∀ r ∈ s.queue.requests, RequestPaced s.now r

theorem mem_of_moveRequest {a r r' : Request} {s : State} (h : a ∈ (moveRequest r r' s).queue.requests) :
    a ∈ s.queue.requests ∨ r ∈ s.queue.requests ∧ a = r' := by
  unfold moveRequest at h
  split at h
  · rcases mem_insertRequest.mp h with h | h
    · exact .inr ⟨‹_›, h⟩
    · exact .inl (List.mem_of_mem_erase h)
  · exact .inl h

theorem BecomesDue.paced {s : State} {r : Request} {t : Time} (c : DueCause) (h : BecomesDue s r t)
    (hr : RequestPaced s.now r) : RequestPaced s.now (r.madeDue t c) := by
  refine ⟨hr.lateness, nofun, fun _ => ⟨t, rfl, .inl rfl, ?_⟩⟩
  have present : t = s.now := by
    rcases h.time with h | ⟨armed, start, reached⟩
    · exact h
    · obtain ⟨t', ht', now⟩ := hr.armed armed
      rw [start] at ht'
      cases ht'
      exact now reached
  rw [present, elapsed_self]
  exact Nat.zero_le _

theorem Enters.paced {s : State} {r : Request} (h : Enters s r) (hs : Paced s) : RequestPaced s.now r := by
  have lateness : r.lateness ≤ 8000 := by
    obtain ⟨main, other⟩ := hs.limits
    rcases h.lateness with h | h <;> omega
  refine ⟨lateness, fun armed => ?_, fun due => ?_⟩
  · rcases h.start with h | ⟨-, h⟩
    · rw [h] at armed; cases armed
    · obtain ⟨d, hd, start⟩ := h hs.tracker
      exact ⟨_, start, eq_of_reached_later hd⟩
  · rcases h.start with h | ⟨h, -⟩ <;> (rw [h] at due; cases due)

theorem AtPresent.paced {s : State} {e : ToothEvent} {r : Request} (h : AtPresent s e) (hs : Paced s)
    (hr : RequestPaced s.now r) : RequestPaced s.now (r.atTooth s.tracker.wheel.wheel e) := by
  unfold Request.atTooth
  dsimp only
  split
  · rename_i planned
    split
    · refine ⟨hr.lateness, fun _ => ⟨_, rfl, ?_⟩, nofun⟩
      rw [h.time]
      refine eq_of_reached_later (startDelay_lt ?_ h.spanNext (h.predicted hs.tracker))
      dsimp only
      omega
    · refine ⟨hr.lateness, fun armed => ?_, fun due => ?_⟩
      · cases planned.symm.trans armed
      · cases planned.symm.trans due
  · exact ⟨hr.lateness, hr.armed, hr.due⟩
  · exact hr
  · exact hr
  · exact hr

theorem Atom.paced {e d : Prop} {s t : State} (a : Atom e d s t) (hs : Paced s) : Paced t := by
  obtain ⟨beside, change⟩ := a
  have all (h : ∀ r ∈ t.queue.requests, RequestPaced s.now r) : Paced t :=
    ⟨by rw [beside.now, beside.tracker]; exact hs.tracker, beside.limits hs.limits, by rw [beside.now]; exact h⟩
  have erased (r : Request) : ∀ x ∈ s.queue.requests.erase r, RequestPaced s.now x :=
    fun x hx => hs.requests x (List.mem_of_mem_erase hx)
  cases change with
  | none requests => exact all (by rw [requests]; exact hs.requests)
  | drop r _ requests => exact all (by rw [requests]; exact erased r)
  | waits r due requests =>
    refine all fun x hx => ?_
    rw [requests] at hx
    rcases mem_of_moveRequest hx with h | ⟨h, rfl⟩
    · exact hs.requests x h
    · have hr := hs.requests r h
      refine ⟨hr.lateness, hr.armed, fun _ => ?_⟩
      obtain ⟨t', time, -, limit⟩ := hr.due due
      exact ⟨t', time, .inr (by rw [Request.waits, time]; rfl), limit⟩
  | due _ r time cause becomes requests =>
    refine all fun x hx => ?_
    rw [requests] at hx
    rcases mem_of_moveRequest hx with h | ⟨h, rfl⟩
    · exact hs.requests x h
    · exact becomes.paced cause (hs.requests r h)
  | enter _ r enters requests =>
    refine all fun x hx => ?_
    rw [requests] at hx
    rcases mem_insertRequest.mp hx with rfl | h
    · exact enters.paced hs
    · exact hs.requests x h
  | tooth ev present requests =>
    refine all fun x hx => ?_
    rw [requests] at hx
    obtain ⟨r, hr, rfl⟩ := List.mem_map.mp hx
    exact present.paced hs (hs.requests r hr)
  | grant x r candidate requests =>
    refine all fun y hy => ?_
    rw [requests] at hy
    rcases mem_insertRequest.mp hy with rfl | h
    · have hr := hs.requests r (mem_waiting.mp (mem_candidates candidate).2.1).1
      exact ⟨hr.lateness, nofun, nofun⟩
    · exact erased r y h
  | ended x o _ _ _ requests => exact all (by rw [requests]; exact erased o)
  | peak x o present _ _ requests =>
    refine all fun y hy => ?_
    rw [requests] at hy
    obtain ⟨r, hr, rfl⟩ := List.mem_map.mp hy
    have hp := hs.requests r hr
    split
    · exact ⟨hp.lateness, nofun, nofun⟩
    · exact hp

theorem counted_trackerTimely {s : State} (h : TrackerTimely s.now s.tracker) :
    TrackerTimely (counted s).now (counted s).tracker := ⟨h.periods, h.camStall, h.camPeriod, h.camTimer, h.camEdge⟩

theorem Rows.paced {s t : State} (h : Rows s t) (hs : Paced s) : Paced t :=
  h.keeps (fun a => a.paced) (fun _ _ hu => ⟨hu.tracker, hu.limits, hu.requests⟩)
    (fun _ _ _ timely hu => ⟨timely hu.tracker, hu.limits, hu.requests⟩)
    (fun _ hu => ⟨counted_trackerTimely hu.tracker, hu.limits, hu.requests⟩) hs

/-! ### Every DUE request is in its waiting set -/

/-- A DUE request that has not been handed over. -/
def Request.unsettled (r : Request) : Bool := r.state == .due && r.lateExpiry.isNone

/-- The DUE requests that have not been handed over. -/
def unsettled (s : State) : List Request := s.queue.requests.filter Request.unsettled

theorem filter_erase (p : Request → Bool) (r : Request) (l : List Request) :
    (l.erase r).filter p = (l.filter p).erase r := by
  induction l with
  | nil => rfl
  | cons a l ih =>
    by_cases ha : a = r
    · subst ha
      rw [List.erase_cons_head, List.filter_cons]
      split
      · rw [List.erase_cons_head]
      · rw [List.erase_of_not_mem fun h => absurd (List.mem_filter.mp h).2 ‹_›]
    · rw [List.erase_cons_tail (by simpa using ha), List.filter_cons, List.filter_cons, ih]
      split
      · rw [List.erase_cons_tail (by simpa using ha)]
      · rfl

theorem unsettled_of_erase {s t : State} {r : Request} (h : t.queue.requests = s.queue.requests.erase r) :
    unsettled t = (unsettled s).erase r := by rw [unsettled, h, filter_erase]; rfl

theorem unsettled_of_moveRequest {s t : State} {r r' : Request} (h : t.queue.requests = (moveRequest r r' s).queue.requests)
    (settled : r'.unsettled = false) : (unsettled t).Perm ((unsettled s).erase r) := by
  rw [unsettled, h]
  unfold moveRequest
  split
  · refine ((insertRequest_perm _ _).filter _).trans ?_
    rw [List.filter_cons_of_neg (by simp [settled]), filter_erase]
    exact List.Perm.refl _
  · rename_i absent
    have away : r ∉ unsettled s := fun h => absent (List.mem_filter.mp h).1
    rw [List.erase_of_not_mem away]
    exact List.Perm.refl _

theorem Atom.unsettled {e : Prop} {s t : State} (a : Atom e False s t) : (unsettled t).Subperm (unsettled s) := by
  obtain ⟨-, change⟩ := a
  have same (h : Machine.unsettled t = Machine.unsettled s) : (Machine.unsettled t).Subperm (Machine.unsettled s) :=
    h ▸ List.Subperm.refl _
  have without (r : Request) : ((Machine.unsettled s).erase r).Subperm (Machine.unsettled s) := List.erase_sublist.subperm
  have inserted {r : Request} {l : List Request} (h : t.queue.requests = insertRequest r l) (settled : r.unsettled = false) :
      (Machine.unsettled t).Perm (l.filter Request.unsettled) := by
    rw [Machine.unsettled, h]
    refine ((insertRequest_perm _ _).filter _).trans ?_
    rw [List.filter_cons_of_neg (by simp [settled])]
  cases change with
  | none requests => exact same (by rw [Machine.unsettled, requests]; rfl)
  | drop r _ requests => exact unsettled_of_erase requests ▸ without r
  | waits r due requests =>
    exact (unsettled_of_moveRequest requests (by simp [Request.unsettled, Request.waits])).subperm.trans (without r)
  | due may => exact may.elim
  | enter _ r enters requests =>
    refine (inserted requests ?_).subperm
    rcases enters.start with h | ⟨h, -⟩ <;> rw [Request.unsettled, h] <;> rfl
  | tooth ev present requests =>
    refine same ?_
    rw [Machine.unsettled, requests]
    refine filter_map_of_fixed (fun r => ?_) _
    unfold Request.atTooth
    cases h : r.state with
    | planned =>
      have idle (st : RequestState) (hst : st = .planned ∨ st = .armed) : (st == RequestState.due) = false := by
        rcases hst with rfl | rfl <;> rfl
      dsimp only
      split <;> simp [Request.unsettled, Request.anchor, h, idle]
    | armed | due | boost | hold => simp [Request.unsettled, h]
  | grant x r candidate requests =>
    refine (inserted requests (by rfl)).subperm.trans ?_
    rw [filter_erase]
    exact without r
  | ended x o _ _ _ requests => exact unsettled_of_erase requests ▸ without o
  | peak x o present _ boost requests =>
    refine same ?_
    rw [Machine.unsettled, requests]
    refine filter_map_of_fixed (fun r => ?_) _
    by_cases h : r = o
    · rw [if_pos h, h, Request.unsettled, Request.unsettled, boost]
      exact ⟨rfl, nofun⟩
    · simp [h]

theorem Chain.unsettled {e : Prop} {s t : State} (c : Chain e False s t) : (unsettled t).Subperm (unsettled s) := by
  induction c with
  | refl => exact List.Subperm.refl _
  | tail _ a ih => exact a.unsettled.trans ih

/-- Handing a DUE request on leaves the others that wait for it, and not the request itself. -/
theorem handOn_unsettled {r : Request} (h : r.state = .due) (s : State) :
    (unsettled (handOn r s)).Subperm ((unsettled s).erase r) := by
  unfold handOn
  split
  · exact (unsettled_of_erase (s := s) (t := captureShadow r s) rfl) ▸ List.Subperm.refl _
  · have idle : driving r.waits.state = false := by rw [Request.waits, h]; rfl
    have moved := unsettled_of_moveRequest (s := s) (t := moveRequest r r.waits s) rfl
      (by simp [Request.unsettled, Request.waits])
    exact (((auction_chain (e := False) (d := False) r.bank (moveRequest r r.waits s)).trans
      (expireAtOnce_chain idle _)).unsettled).trans moved.subperm

theorem handOn_all_unsettled {l : List Request} (s : State) (dues : ∀ r ∈ l, r.state = .due)
    (h : (unsettled s).Subperm l) : unsettled (l.foldl (fun u r => handOn r u) s) = [] := by
  induction l generalizing s with
  | nil => exact List.subperm_nil.mp h
  | cons r l ih =>
    rw [List.forall_mem_cons] at dues
    have rest := h.erase r
    rw [List.erase_cons_head] at rest
    exact ih _ dues.2 ((handOn_unsettled dues.1 s).trans rest)

theorem becomeDue_unsettled {r : Request} {t : Time} {s : State} (c : DueCause) (hs : unsettled s = []) :
    unsettled (becomeDue r t c s) = [] := by
  refine List.subperm_nil.mp ((handOn_unsettled rfl _).trans ?_)
  refine List.Sublist.subperm (List.sublist_nil.mpr ?_)
  have alone : (unsettled (moveRequest r (r.madeDue t c) s)).Subperm [r.madeDue t c] := by
    rw [unsettled]
    unfold moveRequest
    split
    · refine ((insertRequest_perm _ _).filter _).subperm.trans ?_
      rw [List.filter_cons, filter_erase, show s.queue.requests.filter Request.unsettled = [] from hs]
      split
      · exact List.Subperm.refl _
      · exact List.nil_subperm
    · rw [show s.queue.requests.filter Request.unsettled = [] from hs]; exact List.nil_subperm
  have rest := alone.erase (r.madeDue t c)
  rw [List.erase_cons_head] at rest
  exact List.subperm_nil.mp rest

theorem becomeDueTogether_unsettled {rs : List Request} {t : Time} {s : State} (hs : unsettled s = []) :
    unsettled (becomeDueTogether rs t s) = [] := by
  have recorded : ∀ (l : List Request) (u : State), (∀ r ∈ unsettled u, r ∈ rs.map (fun r => r.madeDue t .edge)) →
      (∀ r ∈ l, r ∈ rs) → ∀ r ∈ unsettled (l.foldl (fun v r => countMiss (moveRequest r (r.madeDue t .edge) v)) u),
        r ∈ rs.map (fun r => r.madeDue t .edge) := by
    intro l
    induction l with
    | nil => exact fun u h _ => h
    | cons a l ih =>
      intro u h sub
      rw [List.forall_mem_cons] at sub
      refine ih _ (fun r hr => ?_) sub.2
      obtain ⟨mem, un⟩ := List.mem_filter.mp hr
      rcases mem_of_moveRequest mem with old | ⟨-, new⟩
      · exact h r (List.mem_filter.mpr ⟨old, un⟩)
      · exact List.mem_map.mpr ⟨a, sub.1, new.symm⟩
  have all := recorded rs s (by rw [hs]; exact List.forall_mem_nil _) (fun _ => id)
  unfold becomeDueTogether
  dsimp only
  refine handOn_all_unsettled _ (fun r hr => ?_) ?_
  · have mem := (List.mem_filter.mp hr).2
    simp only [List.contains_eq_mem, List.mem_map, decide_eq_true_eq] at mem
    obtain ⟨x, -, rfl⟩ := mem
    rfl
  · generalize rs.foldl (fun v r => countMiss (moveRequest r (r.madeDue t .edge) v)) s = u at all ⊢
    have both : unsettled u = (u.queue.requests.filter fun r =>
        (rs.map (fun r => r.madeDue t .edge)).contains r).filter Request.unsettled := by
      rw [unsettled, List.filter_filter]
      refine List.filter_congr fun r hr => ?_
      cases hu : r.unsettled with
      | false => rfl
      | true =>
        have mem := all r (List.mem_filter.mpr ⟨hr, hu⟩)
        rw [Bool.true_and, eq_comm]
        simpa only [List.contains_eq_mem, decide_eq_true_eq] using mem
    rw [both]
    exact List.filter_sublist.subperm

theorem Big.unsettled {e : Prop} {s t : State} (h : Big e s t) (hs : unsettled s = []) : unsettled t = [] := by
  have chain {u v : State} (c : Chain e False u v) (hu : Machine.unsettled u = []) : Machine.unsettled v = [] :=
    List.subperm_nil.mp (hu ▸ c.unsettled)
  induction h with
  | chain c => exact chain c hs
  | due c => exact becomeDue_unsettled c hs
  | together => exact becomeDueTogether_unsettled hs
  | derive c s => exact chain (deriveFueling_chain c s) hs
  | track => exact hs
  | trans _ _ ih ih' => exact ih' (ih hs)

theorem Rows.unsettled {s t : State} (h : Rows s t) (hs : unsettled s = []) : unsettled t = [] := by
  rcases h.enters with h | ⟨u, hu, h⟩
  · exact h.unsettled hs
  · exact h.unsettled (s := counted u) (hu.unsettled hs)

end Sys2Proof.Machine

/-! PROOFS. The timers stay within their limits, across the modes and the passing of time. -/

namespace Sys2Proof.Machine

open Sys2Proof.Safety

/-! ### Requests that do not drive, only while the fueling state injects -/

/-- Where the fueling state does not inject, every request drives (R102). -/
def OnlyInjecting (s : State) : Prop :=
  injecting s.fueling.state = false → ∀ r ∈ s.queue.requests, driving r.state = true

theorem Atom.onlyInjecting {e d : Prop} {s t : State} (a : Atom e d s t) (hs : OnlyInjecting s) : OnlyInjecting t := by
  obtain ⟨beside, change⟩ := a
  intro off
  rw [beside.fuelState] at off
  have all := hs off
  -- a request that does not drive does not stand in the queue
  have absent {r : Request} (h : driving r.state = false) : r ∉ s.queue.requests := fun hr => by
    rw [all r hr] at h; cases h
  have erased (r : Request) : ∀ x ∈ s.queue.requests.erase r, driving x.state = true :=
    fun x hx => all x (List.mem_of_mem_erase hx)
  have moved {r r' : Request} (h : driving r.state = false) :
      ∀ x ∈ (moveRequest r r' s).queue.requests, driving x.state = true := by
    rw [moveRequest, if_neg (absent h)]
    exact all
  cases change with
  | none requests => rw [requests]; exact all
  | drop r _ requests => rw [requests]; exact erased r
  | waits r due requests => rw [requests]; exact moved (by rw [due]; rfl)
  | due _ r time cause becomes requests =>
    rw [requests]
    exact moved (by rcases becomes.waits with h | h <;> rw [h] <;> rfl)
  | enter _ r enters => rw [enters.injecting] at off; cases off
  | tooth ev present requests =>
    rw [requests]
    intro x hx
    obtain ⟨r, hr, rfl⟩ := List.mem_map.mp hx
    exact (driving_atTooth _ _ r).1.trans (all r hr)
  | grant x r candidate requests =>
    rw [requests]
    intro y hy
    rcases mem_insertRequest.mp hy with rfl | h
    · rfl
    · exact erased r y h
  | ended x o _ _ _ requests => rw [requests]; exact erased o
  | peak x o present _ boost requests =>
    rw [requests]
    intro y hy
    obtain ⟨r, hr, rfl⟩ := List.mem_map.mp hy
    split
    · rfl
    · exact all r hr

theorem Chain.onlyInjecting {e d : Prop} {s t : State} (c : Chain e d s t) (hs : OnlyInjecting s) :
    OnlyInjecting t := by
  induction c with
  | refl => exact hs
  | tail _ a ih => exact a.onlyInjecting ih

/-- Leaving an injecting state for one that does not inject drops what does not drive (R102). -/
theorem deriveFueling_onlyInjecting (c : FuelCause) {s : State} (hs : OnlyInjecting s) :
    OnlyInjecting (deriveFueling c s) := by
  unfold deriveFueling
  dsimp only
  split
  · exact hs
  · split
    · intro _ r hr
      rw [dropNonDriving_requests] at hr
      exact (List.mem_filter.mp hr).2
    · rename_i h
      intro off
      refine hs ?_
      simp only [raise_fueling, State.setFueling_fueling] at off
      simpa [off] using h

theorem Big.onlyInjecting {e : Prop} {s t : State} (h : Big e s t) (hs : OnlyInjecting s) : OnlyInjecting t := by
  induction h with
  | chain c => exact c.onlyInjecting hs
  | due c _ h => exact (becomeDue_chain (e := False) c h).onlyInjecting hs
  | together _ armed time => exact (becomeDueTogether_chain (e := False) armed time).onlyInjecting hs
  | derive c s => exact deriveFueling_onlyInjecting c hs
  | track => exact hs
  | trans _ _ ih ih' => exact ih' (ih hs)

theorem Rows.onlyInjecting {s t : State} (h : Rows s t) (hs : OnlyInjecting s) : OnlyInjecting t := by
  rcases h.enters with h | ⟨u, hu, h⟩
  · exact h.onlyInjecting hs
  · exact h.onlyInjecting (s := counted u) (hu.onlyInjecting hs)

/-! ### The invariant -/

theorem timely_iff_of_running {s : State} (running : s.running = true) :
    Timely s ↔ Paced s ∧ unsettled s = [] ∧ OnlyInjecting s := by
  constructor
  · intro h
    refine ⟨⟨⟨h.periods, h.camStall, h.camPeriod, h.camTimer, h.camEdge running⟩, h.limits, fun r hr =>
      ⟨h.lateness r hr, h.armed running r hr, fun due => ?_⟩⟩, ?_, h.injects⟩
    · obtain ⟨t, time, expiry, limit⟩ := h.due running r hr due
      exact ⟨t, time, .inr expiry, limit⟩
    · refine List.filter_eq_nil_iff.mpr fun r hr un => ?_
      simp only [Request.unsettled, Bool.and_eq_true, beq_iff_eq, Option.isNone_iff_eq_none] at un
      obtain ⟨t, -, expiry, -⟩ := h.due running r hr un.1
      rw [un.2] at expiry
      cases expiry
  · rintro ⟨⟨tracker, limits, requests⟩, settled, injects⟩
    refine ⟨tracker.periods, tracker.camStall, tracker.camPeriod, tracker.camTimer, fun _ => tracker.camEdge, limits,
      fun r hr => (requests r hr).lateness, fun _ r hr => (requests r hr).armed, fun _ r hr due => ?_, injects,
      fun stopped => by rw [running] at stopped; cases stopped⟩
    obtain ⟨t, time, expiry, limit⟩ := (requests r hr).due due
    refine ⟨t, time, expiry.resolve_left fun none => ?_, limit⟩
    exact List.filter_eq_nil_iff.mp settled r hr (by simp [Request.unsettled, due, none])

theorem Rows.timely {s t : State} (running : s.running = true) (h : Rows s t) (hs : Timely s) : Timely t := by
  obtain ⟨paced, settled, injects⟩ := (timely_iff_of_running running).mp hs
  exact (timely_iff_of_running (h.running.trans running)).mpr
    ⟨h.paced paced, h.unsettled settled, h.onlyInjecting injects⟩

theorem Still.timely {s t : State} (h : Still s t) (hs : Timely s) : Timely t := by
  obtain ⟨b, requests, -⟩ := h
  have now : t.control.timebase = s.control.timebase := b.timebase
  refine ⟨?_, ?_, ?_, ?_, ?_, b.limits hs.limits, ?_, ?_, ?_, ?_, ?_⟩
  · rw [b.tracker]; exact hs.periods
  · rw [b.tracker]; exact hs.camStall
  · rw [b.tracker]; exact hs.camPeriod
  · rw [b.tracker]; exact hs.camTimer
  · rw [b.running, b.tracker, now]; exact hs.camEdge
  · rw [requests]; exact hs.lateness
  · rw [b.running, requests, now]; exact hs.armed
  · rw [b.running, requests, now]; exact hs.due
  · rw [b.fuelState, requests]; exact hs.injects
  · rw [b.running, requests, b.mode, b.wakeSource, b.tracker]; exact hs.resting

/-- A part with no requests, and its tracker at rest. -/
theorem timely_of_empty {s : State} (tracker : TrackerTimely s.now s.tracker) (limits : LimitsTimely s.queue.limits)
    (empty : s.queue.requests = []) (resting : s.running = false → s.control.mode = .warmup →
      s.control.wakeSource = none → s.tracker.camHistory.lastEdge = none) : Timely s where
  periods := tracker.periods
  camStall := tracker.camStall
  camPeriod := tracker.camPeriod
  camTimer := tracker.camTimer
  camEdge _ := tracker.camEdge
  limits := limits
  lateness := by rw [empty]; exact List.forall_mem_nil _
  armed _ := by rw [empty]; exact List.forall_mem_nil _
  due _ := by rw [empty]; exact List.forall_mem_nil _
  injects _ := by rw [empty]; exact List.forall_mem_nil _
  resting stopped := ⟨empty, resting stopped⟩

/-- Another mode outside RUN. -/
theorem timely_of_stopped {s t : State} (hs : Timely s) (tracker : t.tracker = s.tracker)
    (limits : LimitsTimely t.queue.limits) (empty : t.queue.requests = []) (stopped : t.running = false)
    (source : t.control.mode = .warmup → t.control.wakeSource ≠ none) : Timely t where
  periods := by rw [tracker]; exact hs.periods
  camStall := by rw [tracker]; exact hs.camStall
  camPeriod := by rw [tracker]; exact hs.camPeriod
  camTimer := by rw [tracker]; exact hs.camTimer
  camEdge running := by rw [stopped] at running; cases running
  limits := limits
  lateness := by rw [empty]; exact List.forall_mem_nil _
  armed _ := by rw [empty]; exact List.forall_mem_nil _
  due _ := by rw [empty]; exact List.forall_mem_nil _
  injects _ := by rw [empty]; exact List.forall_mem_nil _
  resting _ := ⟨empty, fun mode none => absurd none (source mode)⟩

/-! ### Time passes -/

theorem whenDue_eq_nil_iff {b : Bool} {c : Instr} : whenDue b c = [] ↔ b = false := by
  cases b <;> simp [whenDue]

/-- With nothing due, the cam stall timer and the timers of the requests have not run out. -/
theorem of_no_expiries {s : State} (h : expiries s = []) :
    stallDue s.tracker.camTimer s.tracker.cam.stallTime s.now = false ∧
      ∀ r ∈ s.queue.requests, (r.state = .armed → timeUp r.scheduledStart s = false) ∧
        (r.state = .due → timeUp r.lateExpiry s = false) := by
  simp only [expiries, List.append_eq_nil_iff, List.flatMap_eq_nil_iff, whenDue_eq_nil_iff] at h
  obtain ⟨⟨⟨⟨⟨-, cam⟩, requests⟩, -⟩, -⟩, -⟩ := h
  refine ⟨cam, fun r hr => ?_⟩
  have none := requests r hr
  unfold requestDue at none
  refine ⟨fun armed => ?_, fun due => ?_⟩
  · simpa only [armed, whenDue_eq_nil_iff] using none
  · simpa only [due, whenDue_eq_nil_iff] using none

theorem elapsed_succ (t now : Time) : elapsed t (now + 1) = (elapsed t now + 1) % 2 ^ 32 := by
  simp only [elapsed]
  bv_omega

theorem eq_of_elapsed_zero {t now : Time} (h : elapsed t now = 0) : t = now := by
  simp only [elapsed] at h
  bv_omega

theorem tick_timely {s : State} (running : s.running = true) (due : expiries s = []) (hs : Timely s) :
    Timely (tick s) := by
  obtain ⟨cam, timers⟩ := of_no_expiries due
  refine ⟨hs.periods, hs.camStall, hs.camPeriod, hs.camTimer, fun _ e he => ?_, hs.limits, hs.lateness,
    fun _ r hr armed => ?_, fun _ r hr due => ?_, hs.injects, fun stopped => hs.resting stopped⟩
  · have stall : s.tracker.camTimer = some e := hs.camTimer.trans he
    rw [stall] at cam
    have young : ¬ s.tracker.cam.stallTime ≤ elapsed e s.now := by simpa [stallDue] using cam
    show elapsed e (s.now + 1) ≤ s.tracker.cam.stallTime
    rw [elapsed_succ]
    omega
  · obtain ⟨t, start, -⟩ := hs.armed running r hr armed
    refine ⟨t, start, fun h => eq_of_elapsed_zero ?_⟩
    have early : ¬ elapsed t s.now < 2 ^ 31 := by
      simpa [start, timeUp, reached] using (timers r hr).1 armed
    have bound : elapsed t s.now < 2 ^ 32 := BitVec.isLt _
    have late : elapsed t (s.now + 1) < 2 ^ 31 := of_decide_eq_true h
    show elapsed t (s.now + 1) = 0
    rw [elapsed_succ] at late ⊢
    omega
  · obtain ⟨t, time, expiry, limit⟩ := hs.due running r hr due
    refine ⟨t, time, expiry, ?_⟩
    have small := hs.lateness r hr
    have early : ¬ elapsed (later t r.lateness) s.now < 2 ^ 31 := by
      simpa [expiry, timeUp, reached] using (timers r hr).2 due
    have limit : elapsed t s.now ≤ r.lateness := limit
    show elapsed t (s.now + 1) ≤ r.lateness
    rw [elapsed_later (by omega)] at early
    rw [elapsed_succ]
    omega

/-! ### Phases -/

theorem warmed_timely {s : State} (warmup : s.control.mode = .warmup) (hs : Timely s) : Timely (warmed s) := by
  have stopped : s.running = false := by rw [State.running, warmup]; rfl
  obtain ⟨empty, rest⟩ := hs.resting stopped
  unfold warmed
  cases hw : s.control.wakeSource.isSome with
  | true =>
    refine timely_of_empty ⟨?_, hs.camStall, nofun, rfl, nofun⟩ hs.limits rfl nofun
    rintro k (rfl | rfl) <;> exact empty_bounded
  | false =>
    have quiet := rest warmup (by simpa using hw)
    exact timely_of_empty ⟨hs.periods, hs.camStall, hs.camPeriod, hs.camTimer, fun e he => by
      cases quiet.symm.trans he⟩ hs.limits empty nofun

/-- ENTER_STANDBY finds the part DISARMED, where every request drives, and ends what drives (R195). -/
theorem leaves_timely {s : State} {c : Control} (outputs : OutputsFollow s) (accepted : standbyFailures s = 0)
    (mode : c.mode = .standby ∨ c.mode = .warmup ∧ c.wakeSource ≠ none) (hs : Timely s) :
    Timely ((standbyAborts s).setControl c) := by
  have chain := standbyAborts_chain (e := False) (d := False) s
  have disarmed : s.fueling.state = .disarmed := by
    by_contra h
    simp only [standbyFailures, bit, bne_iff_ne, ne_eq, h, not_false_eq_true, if_true] at accepted
    omega
  have all := chain.onlyInjecting hs.injects (by rw [chain.beside.fuelState, disarmed]; rfl)
  have empty : (standbyAborts s).queue.requests = [] := by
    have none := driven_standbyAborts (outputsFollow_iff.mp outputs).1
    rwa [driven, List.filter_eq_self.mpr all] at none
  refine timely_of_stopped hs chain.beside.tracker (chain.beside.limits hs.limits) empty ?_ ?_
  · rcases mode with h | ⟨h, -⟩ <;> rw [State.running, State.setControl_control, h] <;> rfl
  · intro warmup
    rcases mode with h | ⟨-, h⟩
    · cases h.symm.trans warmup
    · exact h

theorem Phase.timely {s t : State} (h : Phase s t) (outputs : OutputsFollow s) (hs : Timely s) : Timely t := by
  cases h with
  | still => exact hs
  | runs running rows => exact rows.timely running hs
  | tick running due => exact tick_timely running due hs
  | wake standby w =>
    have stopped : s.running = false := by rw [State.running, standby]; rfl
    exact timely_of_stopped hs rfl hs.limits (hs.resting stopped).1 rfl nofun
  | warmed warmup => exact warmed_timely warmup hs
  | held =>
    refine timely_of_empty ⟨?_, by simp [heldInReset, State.reset, Tracker.reset], nofun, rfl, nofun⟩
      (by simp [heldInReset, State.reset, LimitsTimely]) rfl (fun _ _ _ => rfl)
    rintro k (rfl | rfl) <;> exact empty_bounded
  | leaves _ accepted c mode => exact leaves_timely outputs accepted mode hs
  | soft running =>
    have b := (softAborts_chain (e := False) (d := False) s).beside
    refine timely_of_empty ⟨?_, ?_, nofun, rfl, nofun⟩ (b.limits hs.limits) rfl fun stopped => ?_
    · rintro k (rfl | rfl) <;> exact empty_bounded
    · show (softAborts s).tracker.cam.stallTime ≤ _
      rw [b.tracker]
      exact hs.camStall
    · have : (softAborts s).running = false := stopped
      rw [b.running, running] at this
      cases this

/-- Settles O58: in RUN every change keeps the timers within their limits and time waits for what is due; outside RUN no
request is left. -/
theorem everyStepKeepsTheTimersTimely : Obligations.EveryStepKeepsTheTimersTimely := fun _ _ outputs hs hstep =>
  step_keeps_of_phase hstep Still.timely (fun still h => h.timely (still.outputsFollow outputs)) hs

end Sys2Proof.Machine

/-! PROOFS. The requests stand in queue order: where DUE times lie within their lateness limits, queue order is the order
of a key, and a request enters in its place. -/

namespace Sys2Proof.Machine

open Sys2Proof.Safety

/-! ### Queue order as the order of a key -/

/-- What queue order compares, in the order it compares it: the group, then the DUE time (the later, the less time has
passed since) or the sort key, then the priority class and the firing position (R86). -/
def Request.rank (now : Time) (r : Request) : ℕ ×ₗ ℤ ×ₗ ℕ ×ₗ ℕ :=
  let tie := toLex (kindClass r.kind, r.position.val)
  if queueGroup r.state = 1 then toLex (1, toLex (0, toLex (0, 0)))
  else if queueGroup r.state = 2 then toLex (2, toLex (-(elapsed (r.dueTime.getD 0) now : ℤ), tie))
  else toLex (3, toLex (r.sortKey, tie))

theorem queueGroup_cases (st : RequestState) : queueGroup st = 1 ∨ queueGroup st = 2 ∨ queueGroup st = 3 := by
  cases st <;> simp [queueGroup]

theorem queueGroup_eq_two {st : RequestState} (h : queueGroup st = 2) : st = .due := by
  cases st <;> simp [queueGroup] at h ⊢

/-- Of two times that have passed, neither long ago, the earlier is the one more time has passed since. -/
theorem earlier_iff {a b now : Time} (ha : elapsed a now ≤ 8000) (hb : elapsed b now ≤ 8000) :
    earlier a b = true ↔ elapsed b now < elapsed a now := by
  show (!decide (elapsed b a < 2 ^ 31)) = true ↔ _
  rw [Bool.not_eq_true', decide_eq_false_iff_not]
  simp only [elapsed] at *
  bv_omega

theorem eq_iff_elapsed_eq {a b now : Time} : a = b ↔ elapsed a now = elapsed b now := by
  simp only [elapsed]
  constructor
  · rintro rfl; rfl
  · intro h; bv_omega

theorem tieBefore_iff {r x : Request} : tieBefore r x = true ↔
    toLex (kindClass r.kind, r.position.val) < toLex (kindClass x.kind, x.position.val) := by
  simp [tieBefore, Prod.Lex.toLex_lt_toLex]

/-- A DUE request's time has passed, and not long ago. -/
def DueRecently (now : Time) (r : Request) : Prop := r.state = .due → elapsed (r.dueTime.getD 0) now ≤ 8000

theorem RequestPaced.dueRecently {now : Time} {r : Request} (h : RequestPaced now r) : DueRecently now r := fun due => by
  obtain ⟨t, time, -, limit⟩ := h.due due
  rw [time]
  exact limit.trans h.lateness

theorem before_iff_rank_lt {now : Time} {r x : Request} (hr : DueRecently now r) (hx : DueRecently now x) :
    r.before x = true ↔ r.rank now < x.rank now := by
  unfold Request.before Request.rank
  rcases queueGroup_cases r.state with h | h | h <;> rcases queueGroup_cases x.state with g | g | g
  case inr.inl.inr.inl =>
    have order := earlier_iff (hr (queueGroup_eq_two h)) (hx (queueGroup_eq_two g))
    have same := eq_iff_elapsed_eq (a := r.dueTime.getD 0) (b := x.dueTime.getD 0) (now := now)
    generalize r.dueTime.getD 0 = a at order same ⊢
    generalize x.dueTime.getD 0 = b at order same ⊢
    simp [h, g, Prod.Lex.toLex_lt_toLex, tieBefore_iff, order, same]
  all_goals simp [h, g, Prod.Lex.toLex_lt_toLex, tieBefore_iff]

theorem before_eq_false_iff {now : Time} {r x : Request} (hr : DueRecently now r) (hx : DueRecently now x) :
    r.before x = false ↔ x.rank now ≤ r.rank now := by
  rw [← not_lt, ← before_iff_rank_lt hr hx, Bool.not_eq_true]

/-- A request enters a list in its place. -/
theorem insertRequest_order {now : Time} {r : Request} {l : List Request} (hr : DueRecently now r)
    (hl : ∀ x ∈ l, DueRecently now x) (order : l.Pairwise (fun a b => b.before a = false)) :
    (insertRequest r l).Pairwise (fun a b => b.before a = false) := by
  induction l with
  | nil => exact List.pairwise_singleton _ _
  | cons x l ih =>
    rw [List.pairwise_cons] at order
    rw [List.forall_mem_cons] at hl
    unfold insertRequest
    split
    · rename_i ahead
      have first := (before_iff_rank_lt hr hl.1).mp ahead
      refine List.pairwise_cons.mpr ⟨List.forall_mem_cons.mpr ⟨?_, fun y hy => ?_⟩, List.pairwise_cons.mpr order⟩
      · exact (before_eq_false_iff hl.1 hr).mpr first.le
      · exact (before_eq_false_iff (hl.2 y hy) hr).mpr
          (first.le.trans ((before_eq_false_iff (hl.2 y hy) hl.1).mp (order.1 y hy)))
    · rename_i behind
      refine List.pairwise_cons.mpr ⟨fun y hy => ?_, ih hl.2 order.2⟩
      rcases mem_insertRequest.mp hy with rfl | hy
      · simpa using behind
      · exact order.1 y hy

/-! ### Changes that move no request -/

/-- A change of the requests that leaves queue order as it is: the groups stand, DUE times stand, and sort keys fall by
the same amount. -/
theorem before_of_shift {f : Request → Request} {k : Int} (group : ∀ r, queueGroup (f r).state = queueGroup r.state)
    (due : ∀ r, (f r).dueTime = r.dueTime)
    (key : ∀ r, queueGroup r.state = 3 → (f r).sortKey = r.sortKey - k) (kind : ∀ r, (f r).kind = r.kind)
    (position : ∀ r, (f r).position = r.position) (r x : Request) : (f r).before (f x) = r.before x := by
  have tie : tieBefore (f r) (f x) = tieBefore r x := by simp only [tieBefore, kind, position]
  unfold Request.before
  rw [group, group, due, due, tie]
  rcases queueGroup_cases r.state with h | h | h
  · simp [h]
  · simp [h]
  · by_cases g : queueGroup x.state = 3
    · rw [key r h, key x g]
      have lt : decide (r.sortKey - k < x.sortKey - k) = decide (r.sortKey < x.sortKey) := by
        rw [decide_eq_decide]; omega
      have eq : (r.sortKey - k == x.sortKey - k) = (r.sortKey == x.sortKey) := by
        rw [Bool.eq_iff_iff]; simp only [beq_iff_eq]; omega
      rw [lt, eq]
    · have g' : ¬ 3 = queueGroup x.state := Ne.symm g
      simp [h, g']

theorem atTooth_before (w : Wheel) (e : ToothEvent) (r x : Request) :
    (r.atTooth w e).before (x.atTooth w e) = r.before x := by
  refine before_of_shift (f := fun r => r.atTooth w e) (k := ((e.spanBefore * ticksPerTooth w : Nat) : Int)) (fun r => ?_) (fun r => ?_) (fun r => ?_)
    (fun r => ?_) (fun r => ?_) r x
  all_goals
    unfold Request.atTooth
    cases h : r.state with
    | planned => dsimp only; split <;> simp [Request.anchor, queueGroup]
    | armed | due | boost | hold => simp [queueGroup, h]

theorem Atom.order {e d : Prop} {s t : State} (a : Atom e d s t) (paced : Paced s) (hs : InQueueOrder s) :
    InQueueOrder t := by
  have pacedAfter := a.paced paced
  have recent : ∀ r ∈ t.queue.requests, DueRecently t.now r := fun r hr => (pacedAfter.requests r hr).dueRecently
  obtain ⟨beside, change⟩ := a
  rw [beside.now] at recent
  have before : ∀ r ∈ s.queue.requests, DueRecently s.now r := fun r hr => (paced.requests r hr).dueRecently
  have sublist (h : t.queue.requests.Sublist s.queue.requests) : InQueueOrder t := List.Pairwise.sublist h hs
  have insert {r : Request} {l : List Request} (h : t.queue.requests = insertRequest r l)
      (sub : l.Sublist s.queue.requests) : InQueueOrder t := by
    rw [InQueueOrder, h]
    refine insertRequest_order (recent r ?_) (fun x hx => before x (sub.subset hx)) (List.Pairwise.sublist sub hs)
    rw [h]
    exact mem_insertRequest.mpr (.inl rfl)
  have moved {r r' : Request} (h : t.queue.requests = (moveRequest r r' s).queue.requests) : InQueueOrder t := by
    unfold moveRequest at h
    split at h
    · exact insert h List.erase_sublist
    · exact sublist (h ▸ List.Sublist.refl _)
  cases change with
  | none requests => exact sublist (requests ▸ List.Sublist.refl _)
  | drop r _ requests => exact sublist (requests ▸ List.erase_sublist)
  | waits r _ requests => exact moved requests
  | due _ r time cause _ requests => exact moved requests
  | enter _ r _ requests => exact insert requests (List.Sublist.refl _)
  | tooth ev _ requests =>
    rw [InQueueOrder, requests, List.pairwise_map]
    simp only [atTooth_before]
    exact hs
  | grant x r _ requests => exact insert requests List.erase_sublist
  | ended x o _ _ _ requests => exact sublist (requests ▸ List.erase_sublist)
  | peak x o _ _ boost requests =>
    rw [InQueueOrder, requests, List.pairwise_map]
    have same (a b : Request) := before_of_shift (k := 0) (f := fun r => if r = o then { r with state := .hold } else r)
      (fun r => by split <;> simp_all [queueGroup]) (fun r => by split <;> rfl) (fun r _ => by split <;> simp)
      (fun r => by split <;> rfl) (fun r => by split <;> rfl) a b
    simp only [same]
    exact hs

theorem Chain.order {e d : Prop} {s t : State} (c : Chain e d s t) (paced : Paced s) (hs : InQueueOrder s) :
    InQueueOrder t := by
  have both : Paced t ∧ InQueueOrder t := by
    induction c with
    | refl => exact ⟨paced, hs⟩
    | tail _ a ih => exact ⟨a.paced ih.1, a.order ih.1 ih.2⟩
  exact both.2

theorem Rows.order {s t : State} (h : Rows s t) (paced : Paced s) (hs : InQueueOrder s) : InQueueOrder t :=
  (h.keeps (P := fun u => Paced u ∧ InQueueOrder u) (fun a hu => ⟨a.paced hu.1, a.order hu.1 hu.2⟩)
    (fun _ _ hu => ⟨⟨hu.1.tracker, hu.1.limits, hu.1.requests⟩, hu.2⟩)
    (fun _ _ _ timely hu => ⟨⟨timely hu.1.tracker, hu.1.limits, hu.1.requests⟩, hu.2⟩)
    (fun _ hu => ⟨⟨counted_trackerTimely hu.1.tracker, hu.1.limits, hu.1.requests⟩, hu.2⟩) ⟨paced, hs⟩).2

theorem warmed_requests (s : State) : (warmed s).queue.requests = s.queue.requests ∨ (warmed s).queue.requests = [] := by
  unfold warmed
  cases s.control.wakeSource.isSome with
  | false => exact .inl rfl
  | true => exact .inr rfl

theorem Phase.order {s t : State} (h : Phase s t) (timely : Timely s) (hs : InQueueOrder s) : InQueueOrder t := by
  cases h with
  | still => exact hs
  | runs running rows => exact rows.order ((timely_iff_of_running running).mp timely).1 hs
  | tick => exact hs
  | wake => exact hs
  | warmed =>
    rcases warmed_requests s with h | h
    · rw [InQueueOrder, h]; exact hs
    · rw [InQueueOrder, h]; exact List.Pairwise.nil
  | held => exact List.Pairwise.nil
  | leaves running _ c =>
    exact (standbyAborts_chain (e := False) (d := False) s).order ((timely_iff_of_running running).mp timely).1 hs
  | soft => exact List.Pairwise.nil

/-- Settles O59: every request that enters or moves takes its place, and the others keep theirs. -/
theorem everyStepKeepsTheQueueOrder : Obligations.EveryStepKeepsTheQueueOrder := fun _ _ timely hs hstep =>
  step_keeps_of_phase hstep (fun h hu => by rw [InQueueOrder, h.requests]; exact hu)
    (fun still h => h.order (still.timely timely)) hs

end Sys2Proof.Machine

/-! PROOFS. No two requests alike: requests enter only as a cylinder is taken up, once under a cycle number, with the
kinds of one plan, each once. -/

namespace Sys2Proof.Machine

open Sys2Proof.Safety

/-- The identities of the requests. -/
def ids (s : State) : List RequestId := s.queue.requests.map Request.id

/-- A cylinder bears no request under the cycle number in force. -/
def Fresh (c : Cylinder) (s : State) : Prop := ∀ r ∈ s.queue.requests, r.cylinder = c → r.cycle ≠ s.tracker.cycle

/-- No request bears a cycle number. -/
def Unborne (k : Byte) (s : State) : Prop := ∀ r ∈ s.queue.requests, r.cycle ≠ k

theorem id_eq_iff {a b : Request} : a.id = b.id ↔ a.cylinder = b.cylinder ∧ a.kind = b.kind ∧ a.cycle = b.cycle := by
  simp [Request.id]

theorem nodup_ids_iff (s : State) : (ids s).Nodup ↔ s.queue.requests.Pairwise (fun a b =>
    ¬ (a.cylinder = b.cylinder ∧ a.kind = b.kind ∧ a.cycle = b.cycle)) := by
  rw [ids, List.Nodup, List.pairwise_map]
  simp only [ne_eq, id_eq_iff]

theorem exists_of_mem_ids {s t : State} (h : ids t ⊆ ids s) {r : Request} (hr : r ∈ t.queue.requests) :
    ∃ x ∈ s.queue.requests, x.cylinder = r.cylinder ∧ x.kind = r.kind ∧ x.cycle = r.cycle := by
  obtain ⟨x, hx, hid⟩ := List.mem_map.mp (h (List.mem_map_of_mem hr))
  exact ⟨x, hx, id_eq_iff.mp hid⟩

/-! ### Rows that take up no position -/

theorem ids_moveRequest {r r' : Request} (h : r'.id = r.id) (s : State) :
    (ids (moveRequest r r' s)).Perm (ids s) := by
  unfold moveRequest
  split
  · rename_i present
    have split := (List.perm_cons_erase present).map Request.id
    refine ((insertRequest_perm r' _).map Request.id).trans ?_
    rw [List.map_cons, h]
    exact split.symm
  · exact List.Perm.refl _

theorem ids_of_erase {s t : State} {r : Request} (h : t.queue.requests = s.queue.requests.erase r) :
    (ids t).Subperm (ids s) := by
  rw [ids, h]
  exact (List.erase_sublist.map Request.id).subperm

theorem ids_of_map {s t : State} {f : Request → Request} (h : t.queue.requests = s.queue.requests.map f)
    (same : ∀ r, (f r).id = r.id) : ids t = ids s := by
  rw [ids, h, List.map_map, ids]
  exact List.map_congr_left fun r _ => same r

theorem atTooth_id (w : Wheel) (ev : ToothEvent) (r : Request) : (r.atTooth w ev).id = r.id := by
  unfold Request.atTooth
  cases r.state with
  | planned => dsimp only; split <;> rfl
  | armed | due | boost | hold => rfl

theorem Atom.ids {d : Prop} {s t : State} (a : Atom False d s t) : (ids t).Subperm (ids s) := by
  obtain ⟨-, change⟩ := a
  cases change with
  | none requests => rw [Machine.ids, requests]; exact List.Subperm.refl _
  | drop r _ requests => exact ids_of_erase requests
  | waits r _ requests => rw [Machine.ids, requests]; exact (ids_moveRequest (r := r) (r' := r.waits) rfl s).subperm
  | due _ r time cause _ requests =>
    rw [Machine.ids, requests]
    exact (ids_moveRequest (r := r) (r' := r.madeDue time cause) rfl s).subperm
  | enter may => exact may.elim
  | tooth ev _ requests => exact (ids_of_map requests (atTooth_id _ _)) ▸ List.Subperm.refl _
  | grant x r candidate requests =>
    have present := (mem_waiting.mp (mem_candidates candidate).2.1).1
    have moved := ids_moveRequest (r := r) (r' := { r with state := .boost, lateExpiry := none }) rfl s
    rw [moveRequest, if_pos present] at moved
    rw [Machine.ids, requests]
    exact moved.subperm
  | ended x o _ _ _ requests => exact ids_of_erase requests
  | peak x o _ _ _ requests =>
    exact (ids_of_map requests fun r => by split <;> rfl) ▸ List.Subperm.refl _

theorem Chain.ids {d : Prop} {s t : State} (c : Chain False d s t) : (ids t).Subperm (ids s) := by
  induction c with
  | refl => exact List.Subperm.refl _
  | tail _ a ih => exact a.ids.trans ih

/-- Requests apart, with what the planner rests on: the plans in order. -/
def Apart (s : State) : Prop := NoTwins s ∧ PlansInOrder s

theorem Atom.apart {d : Prop} {s t : State} (a : Atom False d s t) (hs : Apart s) : Apart t := by
  obtain ⟨twins, plans⟩ := hs
  have thin := a.ids
  have b := a.1
  refine ⟨⟨?_, b.ring twins.ring, fun r hr cycle => ?_⟩, b.plans plans⟩
  · rw [← nodup_ids_iff]
    obtain ⟨l, perm, sub⟩ := thin
    exact perm.nodup_iff.mp (((nodup_ids_iff s).mpr twins.requests).sublist sub)
  · obtain ⟨x, hx, cylinder, -, same⟩ := exists_of_mem_ids thin.subset hr
    rw [← cylinder]
    refine b.planned _ (twins.named x hx ?_)
    rw [same, cycle, b.tracker]

theorem Big.apart {s t : State} (h : Big False s t) (hs : Apart s) : Apart t :=
  h.keeps (fun a => a.apart)
    (fun u f hu => ⟨⟨hu.1.requests, hu.1.ring, hu.1.named⟩, (setFueling_fuelOnly u f).samePlans.plansInOrder hu.2⟩)
    (fun u k cycle _ hu => ⟨⟨hu.1.requests, hu.1.ring, fun r hr hc => hu.1.named r hr (hc.trans cycle)⟩,
      (setTracker_samePlans u k).plansInOrder hu.2⟩) hs

theorem Big.ids {s t : State} (h : Big False s t) : (ids t).Subperm (ids s) :=
  h.keeps (P := fun u => (Machine.ids u).Subperm (Machine.ids s)) (fun a hu => a.ids.trans hu) (fun _ _ hu => hu)
    (fun _ _ _ _ hu => hu) (List.Subperm.refl _)

theorem Big.unborne {s t : State} {k : Byte} (h : Big False s t) (hs : Unborne k s) : Unborne k t := fun r hr => by
  obtain ⟨x, hx, -, -, cycle⟩ := exists_of_mem_ids h.ids.subset hr
  rw [← cycle]
  exact hs x hx

theorem Big.planned {e : Prop} {s t : State} (h : Big e s t) (c : Cylinder) (hs : (s.cyl c).cyclePlanned = true) :
    (t.cyl c).cyclePlanned = true :=
  h.keeps (P := fun u => (u.cyl c).cyclePlanned = true) (fun a hu => a.1.planned c hu) (fun _ _ hu => hu)
    (fun _ _ _ _ hu => hu) hs

/-! ### Taking a cylinder up -/

/-- Requests of one cylinder have entered under the cycle number in force, each kind at most once. -/
def TakesUp (c : Cylinder) (s t : State) : Prop :=
  ∃ kinds : List PulseKind, kinds.Nodup ∧ (ids t).Subperm (kinds.map (fun k => ⟨c, k, s.tracker.cycle⟩) ++ ids s)

theorem TakesUp.of_ids {c : Cylinder} {s t : State} (h : (ids t).Subperm (ids s)) : TakesUp c s t :=
  ⟨[], List.nodup_nil, h⟩

/-- A cylinder taken up that bears no request under the cycle number in force keeps the requests apart. -/
theorem TakesUp.noTwins {c : Cylinder} {s t : State} (h : TakesUp c s t) (fresh : Fresh c s)
    (ring : t.table.ring = s.table.ring) (cycle : t.tracker.cycle = s.tracker.cycle)
    (planned : ∀ d, (s.cyl d).cyclePlanned = true → (t.cyl d).cyclePlanned = true)
    (named : (t.cyl c).cyclePlanned = true) (hs : NoTwins s) : NoTwins t := by
  obtain ⟨kinds, distinct, sub⟩ := h
  refine ⟨?_, ring ▸ hs.ring, fun r hr current => ?_⟩
  · rw [← nodup_ids_iff]
    have all : (kinds.map (fun k => (⟨c, k, s.tracker.cycle⟩ : RequestId)) ++ ids s).Nodup := by
      refine List.nodup_append.mpr ⟨distinct.map fun a b h => by simpa using h, (nodup_ids_iff s).mpr hs.requests, ?_⟩
      rintro a ha b hb rfl
      obtain ⟨k, -, rfl⟩ := List.mem_map.mp ha
      obtain ⟨x, hx, hid⟩ := List.mem_map.mp hb
      simp only [Request.id, RequestId.mk.injEq] at hid
      exact fresh x hx hid.1 hid.2.2
    obtain ⟨l, perm, sublist⟩ := sub
    exact perm.nodup_iff.mp (all.sublist sublist)
  · rcases List.mem_append.mp (sub.subset (List.mem_map_of_mem hr)) with h | h
    · obtain ⟨k, -, hid⟩ := List.mem_map.mp h
      simp only [Request.id, RequestId.mk.injEq] at hid
      rw [← hid.1]
      exact named
    · obtain ⟨x, hx, hid⟩ := List.mem_map.mp h
      obtain ⟨cylinder, -, same⟩ := id_eq_iff.mp hid
      rw [← cylinder]
      exact planned _ (hs.named x hx (by rw [same, current, cycle]))

theorem enterQueue_ids (r : Request) (s : State) : (ids (enterQueue r s)).Subperm (r.id :: ids s) := by
  rcases Nat.lt_or_ge s.queue.requests.length 16 with room | full
  · rw [enterQueue_room room]
    exact ((insertRequest_perm r s.queue.requests).map Request.id).subperm
  · rw [enterQueue_full full]
    exact (List.sublist_cons_self _ _).subperm

theorem inClassOrder_perm (rs : List Request) : (inClassOrder rs).Perm rs := by
  refine List.perm_iff_count.mpr fun a => ?_
  simp only [inClassOrder, classOrder, List.flatMap_cons, List.flatMap_nil, List.append_nil, List.count_append]
  have one (k : PulseKind) : (rs.filter (fun r => r.kind == k)).count a = if a.kind = k then rs.count a else 0 := by
    split
    · rw [List.count_filter (by simpa)]
    · rename_i h
      exact List.count_eq_zero_of_not_mem fun hm => h (by simpa using (List.mem_filter.mp hm).2)
  simp only [one]
  cases a.kind <;> simp

theorem insertPlanned_ids (ev : ToothEvent) (rs : List Request) (s : State) :
    (ids (insertPlanned ev rs s)).Subperm (rs.map Request.id ++ ids s) := by
  have row : ∀ (place : Request → Request) (l : List Request) (u : State), (∀ r, (place r).id = r.id) →
      (ids (l.foldl (fun v r => enterQueue (place r) v) u)).Subperm (l.map Request.id ++ ids u) := by
    intro place l
    induction l with
    | nil => exact fun u _ => List.Subperm.refl _
    | cons r l ih =>
      intro u same
      refine (ih _ same).trans ?_
      refine ((List.subperm_append_left (l.map Request.id)).mpr (enterQueue_ids (place r) u)).trans ?_
      rw [same]
      exact List.perm_middle.subperm
  refine (row _ (inClassOrder rs) s fun r => by split <;> rfl).trans ?_
  exact (((inClassOrder_perm rs).map Request.id).append_right _).subperm

/-- The candidates of a plan have the kinds of its entries, in their order. -/
theorem buildEntries_ids (g : Planning) (es : List PlanEntry) (s : State) :
    ((buildEntries g es s).2.map Request.id).Sublist
      (es.map (fun x => (⟨g.entry.cylinder, x.kind, s.tracker.cycle⟩ : RequestId))) := by
  have row : ∀ (es : List PlanEntry) (acc : State × List Request), acc.1.tracker.cycle = s.tracker.cycle →
      ((es.foldl (buildEntry g) acc).2.map Request.id).Sublist (acc.2.map Request.id ++
        es.map (fun x => (⟨g.entry.cylinder, x.kind, s.tracker.cycle⟩ : RequestId))) := by
    intro es
    induction es with
    | nil => intro acc _; simp
    | cons x es ih =>
      intro acc cycle
      have next : (buildEntry g acc x).1.tracker.cycle = s.tracker.cycle ∧ ((buildEntry g acc x).2.map Request.id).Sublist
          (acc.2.map Request.id ++ [(⟨g.entry.cylinder, x.kind, s.tracker.cycle⟩ : RequestId)]) := by
        unfold buildEntry
        dsimp only
        split
        · exact ⟨cycle, List.sublist_append_left _ _⟩
        · split
          · exact ⟨cycle, by simp [Request.id, Planning.request, cycle]⟩
          · exact ⟨cycle, by simp [Request.id, Planning.request, cycle]⟩
      refine (ih _ next.1).trans ?_
      simpa using next.2.append_right (es.map (fun x => (⟨g.entry.cylinder, x.kind, s.tracker.cycle⟩ : RequestId)))
  exact row es (s, []) rfl

/-- Building drops and clamps, and changes no request. -/
theorem buildEntries_requests (g : Planning) (es : List PlanEntry) (s : State) :
    (buildEntries g es s).1.queue.requests = s.queue.requests := by
  have row : ∀ (es : List PlanEntry) (acc : State × List Request),
      (es.foldl (buildEntry g) acc).1.queue.requests = acc.1.queue.requests := by
    intro es
    induction es with
    | nil => exact fun _ => rfl
    | cons x es ih =>
      intro acc
      refine (ih _).trans ?_
      unfold buildEntry
      dsimp only
      split
      · rfl
      · split <;> rfl
  exact row es (s, [])

/-- Entries of different kinds, built and inserted, take their cylinder up. -/
theorem build_takesUp {g : Planning} {es : List PlanEntry} (ev : ToothEvent) (s : State)
    (distinct : (es.map (·.kind)).Nodup) :
    TakesUp g.entry.cylinder s (insertPlanned ev (buildEntries g es s).2 (buildEntries g es s).1) := by
  refine ⟨es.map (·.kind), distinct, (insertPlanned_ids ev _ _).trans ?_⟩
  rw [show ids (buildEntries g es s).1 = ids s by rw [ids, buildEntries_requests, ids], List.map_map]
  exact ((buildEntries_ids g es s).append_right _).subperm

theorem kinds_nodup {lead : Nat} {es : List PlanEntry} (h : PlanInOrder lead es) : (es.map (·.kind)).Nodup := by
  rw [List.Nodup, List.pairwise_map]
  refine h.1.imp fun ⟨kind, _⟩ same => ?_
  rw [same] at kind
  exact lt_irrefl _ kind

theorem planFrom_takesUp {s : State} (ev : ToothEvent) (g : Planning) (plans : PlansInOrder s) :
    TakesUp g.entry.cylinder s (planFrom ev g s) := by
  have fault (a b : Nat) : TakesUp g.entry.cylinder s (parityFault g.entry.cylinder a b s) :=
    .of_ids (List.Subperm.refl _)
  have distinct : (((s.store.bank s.store.active).plans.get g.entry.cylinder).map (·.kind)).Nodup :=
    kinds_nodup ((plansInOrder_iff.mp plans).1 _ _)
  unfold planFrom
  dsimp only
  split
  · exact fault _ _
  · split
    · split
      · exact fault _ _
      · refine build_takesUp ev s ?_
        rw [List.map_map]
        exact distinct.sublist (List.filter_sublist.map _)
    · exact build_takesUp ev s distinct

theorem takeUpAtTooth_takesUp {s : State} (ev : ToothEvent) (p : Position) (entry : RingEntry) (plans : PlansInOrder s) :
    TakesUp entry.cylinder s (takeUpAtTooth ev p entry s) := by
  unfold takeUpAtTooth
  dsimp only
  split
  · exact planFrom_takesUp ev _ plans
  · exact .of_ids (List.Subperm.refl _)

/-- A position that is taken up at a tooth was not named, and is named then (R48). -/
theorem planPosition_cases (ev : ToothEvent) (i : Nat) (s : State) : planPosition ev i s = s ∨
    ∃ p entry, (s.cyl entry.cylinder).cyclePlanned = false ∧
      planPosition ev i s = takeUpAtTooth ev p entry (nameCylinder entry.cylinder s) := by
  unfold planPosition
  split
  · rename_i p entry point _ _
    split
    · rename_i h
      simp only [Bool.and_eq_true, Bool.not_eq_true'] at h
      exact .inr ⟨p, entry, h.2, rfl⟩
    · exact .inl rfl
  · exact .inl rfl

/-- A cylinder that is not named bears no request under the cycle number in force. -/
theorem fresh_of_unnamed {c : Cylinder} {s : State} (hs : NoTwins s) (unnamed : (s.cyl c).cyclePlanned = false) :
    Fresh c s := fun r hr cylinder cycle => by
  have := hs.named r hr cycle
  rw [cylinder, unnamed] at this
  cases this

theorem nameCylinder_takesUp {c : Cylinder} {s t : State} (h : TakesUp c (nameCylinder c s) t) : TakesUp c s t := h

theorem TakesUp.unborne {c : Cylinder} {s t : State} {k : Byte} (h : TakesUp c s t) (other : k ≠ s.tracker.cycle)
    (hs : Unborne k s) : Unborne k t := by
  obtain ⟨kinds, -, sub⟩ := h
  intro r hr
  rcases List.mem_append.mp (sub.subset (List.mem_map_of_mem hr)) with h | h
  · obtain ⟨x, -, hid⟩ := List.mem_map.mp h
    simp only [Request.id, RequestId.mk.injEq] at hid
    rw [← hid.2.2]
    exact other.symm
  · obtain ⟨x, hx, hid⟩ := List.mem_map.mp h
    rw [← (id_eq_iff.mp hid).2.2]
    exact hs x hx

theorem planPosition_apart {s : State} {ev : ToothEvent} (i : Nat) (present : AtPresent s ev) (hs : Apart s) :
    Apart (planPosition ev i s) ∧ ∀ k ≠ s.tracker.cycle, Unborne k s → Unborne k (planPosition ev i s) := by
  have chain := planPosition_chain (d := False) i present
  have q := planPosition_quiet ev i s
  rcases planPosition_cases ev i s with h | ⟨p, entry, unnamed, h⟩
  · rw [h]
    exact ⟨hs, fun _ _ => id⟩
  · have named : Big False s (nameCylinder entry.cylinder s) := .chain (nameCylinder_chain _ s)
    have taken := nameCylinder_takesUp (takeUpAtTooth_takesUp ev p entry (named.apart hs).2)
    rw [← h] at taken
    refine ⟨⟨taken.noTwins (fresh_of_unnamed hs.1 unnamed) q.ring (by rw [q.tracker]) chain.beside.planned ?_ hs.1,
      chain.beside.plans hs.2⟩, fun k => taken.unborne⟩
    rw [h]
    have kept := takeUpAtTooth_chain (d := False) p entry (present.of_beside (nameCylinder_chain (e := False) (d := False)
      entry.cylinder s).beside)
    exact kept.beside.planned _ (by simp [nameCylinder])

theorem Run.apart {s t : State} (h : Run s t) (hs : Apart s) :
    Apart t ∧ ∀ k ≠ s.tracker.cycle, Unborne k s → Unborne k t := by
  induction h with
  | big h => exact ⟨h.apart hs, fun _ _ => h.unborne⟩
  | tooth i present => exact planPosition_apart i present hs
  | trans h _ ih ih' =>
    obtain ⟨mid, first⟩ := ih hs
    obtain ⟨last, second⟩ := ih' mid
    exact ⟨last, fun k hk hu => second k (by rw [h.enters.control.2.2.2]; exact hk) (first k hk hu)⟩

/-! ### The planning of a cam edge -/

theorem admitLimp_ids (t : Time) (period : Nat) (r : Request) {s : State} (now : t = s.now) :
    (ids (admitLimp t period r s)).Subperm (r.id :: ids s) := by
  unfold admitLimp
  dsimp only
  split
  · exact enterQueue_ids _ s
  · split
    · exact (List.sublist_cons_self _ _).subperm
    · have due := becomeDue_chain (e := False) (s := enterQueue { r with state := .armed, scheduledStart := some t } s)
        (r := { r with state := .armed, scheduledStart := some t }) (t := t) .immediate
        ⟨.inr rfl, .inl (by rw [(enterQueue_quiet _ s).now]; exact now)⟩
      exact due.ids.trans (enterQueue_ids { r with state := .armed, scheduledStart := some t } s)

theorem planLimp_takesUp {s : State} {t : Time} {period : Nat} (g : Planning) (now : t = s.now) :
    TakesUp g.entry.cylinder s (planLimp t period g s) := by
  unfold planLimp
  split
  · exact .of_ids (List.Subperm.refl _)
  · have row : ∀ (l : List Request) (u : State), t = u.now →
        (ids (l.foldl (fun v r => admitLimp t period r v) u)).Subperm (l.map Request.id ++ ids u) := by
      intro l
      induction l with
      | nil => exact fun u _ => List.Subperm.refl _
      | cons r l ih =>
        intro u hu
        refine (ih _ (by rw [(admitLimp_quiet t period r u).now]; exact hu)).trans ?_
        refine ((List.subperm_append_left (l.map Request.id)).mpr (admitLimp_ids t period r hu)).trans ?_
        exact List.perm_middle.subperm
    refine ⟨[s.store.limp.kind], List.nodup_singleton _, ?_⟩
    refine (row _ _ (by rw [(buildEntries_quiet g _ s).now]; exact now)).trans ?_
    rw [show ids (buildEntries g [s.store.limp] s).1 = ids s by rw [ids, buildEntries_requests, ids]]
    exact ((buildEntries_ids g [s.store.limp] s).append_right _).subperm

theorem planLimpPosition_takesUp {s : State} {t : Time} {period i : Nat} {p : Position} {entry : RingEntry}
    (at_ : ringAt s i = some (p, entry)) (now : t = s.now) :
    TakesUp entry.cylinder s (planLimpPosition t period i s) := by
  unfold planLimpPosition
  rw [at_]
  dsimp only
  split
  · exact planLimp_takesUp (s := nameCylinder entry.cylinder s) _ now
  · exact .of_ids (List.Subperm.refl _)

theorem planLimpPosition_none {s : State} {t : Time} {period i : Nat} (h : ringAt s i = none) :
    planLimpPosition t period i s = s := by
  unfold planLimpPosition
  rw [h]

theorem planLimpPosition_named {s : State} {t : Time} {period i : Nat} {p : Position} {entry : RingEntry}
    (at_ : ringAt s i = some (p, entry)) (now : t = s.now) (timely : TrackerTimely s.now s.tracker → period ≤ 16000000) :
    ((planLimpPosition t period i s).cyl entry.cylinder).cyclePlanned = true := by
  have named : ((nameCylinder entry.cylinder s).cyl entry.cylinder).cyclePlanned = true := by simp [nameCylinder]
  unfold planLimpPosition
  rw [at_]
  dsimp only
  split
  · rename_i h
    simp only [Bool.and_eq_true, beq_iff_eq] at h
    exact (planLimp_big (s := nameCylinder entry.cylinder s) _ (by rw [h.1]; rfl) now timely).planned _ named
  · exact named

/-- The requests under the cycle number in force are of cylinders at positions already taken up. -/
def TakenAt (done : List Nat) (s : State) : Prop := ∀ r ∈ s.queue.requests, r.cycle = s.tracker.cycle →
  ∃ j ∈ done, ∃ x, s.table.ring[j]? = some x ∧ x.cylinder = r.cylinder

theorem planLimpPosition_apart {s : State} {t : Time} {period i : Nat} {done : List Nat} (now : t = s.now)
    (timely : TrackerTimely s.now s.tracker → period ≤ 16000000) (fresh : i ∉ done) (taken : TakenAt done s)
    (hs : Apart s) : Apart (planLimpPosition t period i s) ∧ TakenAt (i :: done) (planLimpPosition t period i s) := by
  cases at_ : ringAt s i with
  | none =>
    rw [planLimpPosition_none at_]
    exact ⟨hs, fun r hr hc => let ⟨j, hj, x⟩ := taken r hr hc; ⟨j, List.mem_cons_of_mem _ hj, x⟩⟩
  | some at_i =>
    obtain ⟨p, entry⟩ := at_i
    have entryAt : s.table.ring[i]? = some entry := by
      obtain ⟨x, hx, heq⟩ := Option.map_eq_some_iff.mp at_
      cases heq
      exact hx
    have big := planLimpPosition_big i now timely
    have q := planLimpPosition_quiet t period i s
    have up := planLimpPosition_takesUp (period := period) at_ now
    have unborne : Fresh entry.cylinder s := fun r hr cylinder cycle => by
      obtain ⟨j, hj, x, hx, same⟩ := taken r hr cycle
      have apart : i ≠ j := fun h => fresh (h ▸ hj)
      have distinct := (List.pairwise_iff_getElem.mp hs.1.ring)
      obtain ⟨hi, ei⟩ := List.getElem?_eq_some_iff.mp entryAt
      obtain ⟨hj', ej⟩ := List.getElem?_eq_some_iff.mp hx
      rcases Nat.lt_or_gt_of_ne apart with lt | lt
      · exact distinct i j hi hj' lt (by rw [ei, ej, same, cylinder])
      · exact distinct j i hj' hi lt (by rw [ei, ej, same, cylinder])
    refine ⟨⟨up.noTwins unborne q.ring (by rw [q.tracker]) (fun c => big.planned c) (planLimpPosition_named at_ now timely)
      hs.1, q.samePlans.plansInOrder hs.2⟩, fun r hr hc => ?_⟩
    obtain ⟨kinds, -, sub⟩ := up
    rw [q.ring]
    rw [q.tracker] at hc
    rcases List.mem_append.mp (sub.subset (List.mem_map_of_mem hr)) with h | h
    · obtain ⟨k, -, hid⟩ := List.mem_map.mp h
      simp only [Request.id, RequestId.mk.injEq] at hid
      exact ⟨i, List.mem_cons_self, entry, entryAt, hid.1⟩
    · obtain ⟨x, hx, hid⟩ := List.mem_map.mp h
      obtain ⟨cylinder, -, same⟩ := id_eq_iff.mp hid
      obtain ⟨j, hj, y, hy, hcyl⟩ := taken x hx (same.trans hc)
      exact ⟨j, List.mem_cons_of_mem _ hj, y, hy, hcyl.trans cylinder⟩

theorem camEvent_apart {s : State} {t : Time} {period : Nat} (now : t = s.now)
    (timely : TrackerTimely s.now s.tracker → period ≤ 16000000) (unborne : Unborne s.tracker.cycle s) (hs : Apart s) :
    Apart (camEvent t period s) := by
  have row : ∀ (l done : List Nat) (u : State), l.Nodup → (∀ i ∈ l, i ∉ done) → t = u.now →
      (TrackerTimely u.now u.tracker → period ≤ 16000000) → TakenAt done u → Apart u →
      Apart (l.foldl (fun v i => planLimpPosition t period i v) u) := by
    intro l
    induction l with
    | nil => exact fun _ _ _ _ _ _ _ => id
    | cons i l ih =>
      intro done u distinct fresh hu ht taken apart
      rw [List.nodup_cons] at distinct
      rw [List.forall_mem_cons] at fresh
      obtain ⟨next, nextTaken⟩ := planLimpPosition_apart hu ht fresh.1 taken apart
      have q := planLimpPosition_quiet t period i u
      refine ih (i :: done) _ distinct.2 (fun j hj hmem => ?_) (by rw [q.now]; exact hu)
        (by rw [q.now, q.tracker]; exact ht) nextTaken next
      rcases List.mem_cons.mp hmem with rfl | h
      · exact distinct.1 hj
      · exact fresh.2 j hj h
  have queued : Big False s (queueCam t s) := queueCam_big now
  have q := queueCam_quiet t s
  refine row positionIndices [] _ (by decide) (fun _ _ => List.not_mem_nil) (by rw [q.now]; exact now)
    (by rw [q.now, q.tracker]; exact timely) (fun r hr hc => ?_) (queued.apart hs)
  rw [q.tracker] at hc
  exact absurd hc (queued.unborne unborne r hr)

/-! ### Rows and phases -/

/-- As the cycle number advances, no request bears it yet, and every cylinder may be named again (R49). -/
theorem counted_apart {s : State} (unborne : Unborne (s.tracker.cycle + 1) s) (hs : Apart s) : Apart (counted s) :=
  ⟨⟨hs.1.requests, hs.1.ring, fun r hr cycle => absurd cycle (unborne r hr)⟩,
    SamePlans.plansInOrder (s := s) ⟨rfl, rfl, rfl, rfl⟩ hs.2⟩

theorem Rows.apart {s t : State} (h : Rows s t) (unborne : Unborne (s.tracker.cycle + 1) s) (hs : Apart s) : Apart t := by
  have ahead {u : State} (hu : Run s u) : Apart u ∧ Unborne (u.tracker.cycle + 1) u := by
    obtain ⟨apart, kept⟩ := hu.apart hs
    rw [hu.enters.control.2.2.2]
    refine ⟨apart, kept _ (fun h => ?_) unborne⟩
    bv_omega
  rcases h with h | ⟨u, hu, h⟩ | ⟨u, v, now, period, hu, hv, time, timely, h⟩
  · exact (h.apart hs).1
  · obtain ⟨apart, free⟩ := ahead hu
    exact (h.apart (counted_apart free apart)).1
  · obtain ⟨apart, free⟩ := ahead hu
    have cycle : v.tracker.cycle = u.tracker.cycle + 1 := hv.control.2.2.2
    refine (h.apart (camEvent_apart time timely ?_ (hv.apart (counted_apart free apart)))).1
    rw [cycle]
    exact hv.unborne free

theorem noTwins_of_empty {s : State} (empty : s.queue.requests = [])
    (ring : s.table.ring.Pairwise (fun a b => a.cylinder ≠ b.cylinder)) : NoTwins s :=
  ⟨by rw [empty]; exact List.Pairwise.nil, ring, by rw [empty]; exact List.forall_mem_nil _⟩

theorem warmed_noTwins {s : State} (hs : NoTwins s) : NoTwins (warmed s) := by
  unfold warmed
  cases s.control.wakeSource.isSome with
  | false => exact ⟨hs.requests, hs.ring, hs.named⟩
  | true => exact noTwins_of_empty rfl hs.ring

theorem Phase.noTwins {s t : State} (h : Phase s t) (plans : PlansInOrder s) (unborne : Unborne (s.tracker.cycle + 1) s)
    (hs : NoTwins s) : NoTwins t := by
  cases h with
  | still => exact hs
  | runs running rows => exact (rows.apart unborne ⟨hs, plans⟩).1
  | tick => exact ⟨hs.requests, hs.ring, hs.named⟩
  | wake => exact ⟨hs.requests, hs.ring, hs.named⟩
  | warmed => exact warmed_noTwins hs
  | held => exact noTwins_of_empty rfl List.Pairwise.nil
  | leaves =>
    have big : Big False s (standbyAborts s) := .chain (standbyAborts_chain s)
    obtain ⟨requests, ring, named⟩ := (big.apart ⟨hs, plans⟩).1
    exact ⟨requests, ring, named⟩
  | soft =>
    have b := (softAborts_chain (e := False) (d := False) s).beside
    exact noTwins_of_empty rfl (b.ring hs.ring)

theorem Still.apart {s t : State} (h : Still s t) (hs : NoTwins s) : NoTwins t := by
  obtain ⟨b, requests, -⟩ := h
  refine ⟨by rw [requests]; exact hs.requests, b.ring hs.ring, fun r hr cycle => ?_⟩
  rw [requests] at hr
  rw [b.tracker] at cycle
  exact b.planned _ (hs.named r hr cycle)

/-- Settles O60: only the planner brings requests in, for a cylinder with none under the cycle number in force, from a
plan that holds each kind once. -/
theorem everyStepKeepsRequestsApart : Obligations.EveryStepKeepsRequestsApart := fun _ _ plans unborne hs hstep =>
  step_keeps_of_phase hstep Still.apart (fun still h hu => h.noTwins (still.beside.plans plans)
    (by rw [Unborne, still.requests, still.beside.tracker]; exact unborne) hu) hs

end Sys2Proof.Machine

/-! PROOFS. The machine's step: what it takes when a command waits, and what it puts in the queue when none does (R192,
R198; log 1, log 2). -/

namespace Sys2Proof.Machine

open Sys2Proof.Safety

/-- Settles O1: the step's branch of a queue that is not empty. -/
theorem stepRunsFrontCommand : Obligations.StepRunsFrontCommand := fun _ _ _ => rfl

/-! ### The free order (log 2) -/

/-- Whatever number codes it, an arrangement keeps every member, as often as it stands there. -/
theorem arrangeBy_perm (fuel n : Nat) (xs : List Instr) : (arrangeBy fuel n xs).Perm xs := by
  induction fuel generalizing n xs with
  | zero => exact .refl xs
  | succ fuel ih =>
    unfold arrangeBy
    split
    next x hx =>
      obtain ⟨hlt, rfl⟩ := List.getElem?_eq_some_iff.mp hx
      exact ((ih _ _).cons _).trans (List.getElem_cons_eraseIdx_perm hlt)
    next => exact .refl xs

theorem enqueue_eq (xs : List Instr) (s : State) :
    ∃ p n, enqueue xs s = { s with pending := p, freeIndex := n } ∧ p.Perm xs := by
  unfold enqueue
  split
  next => exact ⟨xs, s.freeIndex, rfl, .refl xs⟩
  next => exact ⟨_, _, rfl, arrangeBy_perm _ _ xs⟩

theorem idle_of_running {s : State} (running : s.running = true) (high : s.pins.resetLow = false) : idle s = idleRun s := by
  have mode : s.control.mode = .run := by simpa [State.running] using running
  simp [idle, high, mode]

theorem step_of_no_command {s : State} (none : s.pending = []) : step s = .next (idle s) := by
  simp [step, none]

/-! ### The timers that have run out -/

theorem mem_whenDue {b : Bool} {c d : Instr} : c ∈ whenDue b d ↔ c = d ∧ b = true := by
  cases b <;> simp [whenDue]

theorem reached_iff {t now : Time} : reached t now = true ↔ (now - t).toNat < 2 ^ 31 := decide_eq_true_iff

theorem timeUp_iff {o : Option Time} {s : State} :
    timeUp o s = true ↔ ∃ t, o = some t ∧ (s.control.timebase - t).toNat < 2 ^ 31 := by
  cases o with
  | none => simp [timeUp]
  | some t => simp only [timeUp, reached_iff, State.now, Option.some.injEq, exists_eq_left']

theorem stallDue_iff {o : Option Time} {n : Nat} {now : Time} :
    stallDue o n now = true ↔ ∃ t, o = some t ∧ n ≤ (now - t).toNat := by
  cases o with
  | none => simp [stallDue]
  | some t =>
    simp only [stallDue, elapsed, Option.some.injEq, exists_eq_left']
    exact decide_eq_true_iff

theorem mem_requestDue {c : Instr} {r : Request} {s : State} :
    c ∈ requestDue s r ↔
      (r.state = .armed ∧ timeUp r.scheduledStart s = true ∧ c = .startTimerExpiry r.id) ∨
      (r.state = .due ∧ timeUp r.lateExpiry s = true ∧ c = .latenessExpiry r.id) := by
  unfold requestDue
  cases r.state <;> simp [mem_whenDue, and_comm]

theorem mem_bankDue {c : Instr} {x : Bank} {s : State} :
    c ∈ bankDue s x ↔
      (∃ o p t, c = .peakTimeoutAbort x ∧ occupant x s = some o ∧ o.state = .boost ∧ (s.drive x).pulse = some p ∧
        p.peakExpiry = some t ∧ (s.control.timebase - t).toNat < 2 ^ 31) ∨
      (∃ o p, c = .durationEnd x ∧ occupant x s = some o ∧ (s.drive x).pulse = some p ∧
        (s.control.timebase - p.durationEnd).toNat < 2 ^ 31) ∨
      (∃ t, c = .rechargeComplete x ∧ (s.drive x).charge = .charging (some t) ∧
        (s.control.timebase - t).toNat < 2 ^ 31) := by
  have charge : ∀ t, completion (s.drive x).charge = some t ↔ (s.drive x).charge = .charging (some t) := fun t => by
    cases (s.drive x).charge <;> simp [completion]
  simp only [bankDue, boosting, List.mem_append, mem_whenDue, Bool.and_eq_true, timeUp_iff, Option.any_eq_true, beq_iff_eq,
    Option.isSome_iff_exists, Option.bind_eq_some_iff, Option.map_eq_some_iff, charge]
  grind

theorem mem_cylDue {c : Instr} {y : Cylinder} {s : State} :
    c ∈ cylDue s y ↔
      (∃ t, c = .lastEndInvalid y ∧ (s.cyl y).lastEnd = some t ∧ (s.control.timebase - (t + 8000)).toNat < 2 ^ 31) ∨
      (c = .separationElapse y ∧ s.queue.limits.minSeparation = 0 ∧
        (s.cyl y).lastEnd = some s.control.timebase ∧ separationElapses y s ≠ s) := by
  simp only [cylDue, separatesAtOnce, sinceEnd, List.mem_append, mem_whenDue, Bool.and_eq_true, timeUp_iff, beq_iff_eq,
    bne_iff_ne, Option.map_eq_some_iff, State.now]
  constructor
  · rintro (⟨rfl, ⟨h, g⟩, k⟩ | ⟨rfl, _, ⟨t, ht, rfl⟩, h⟩)
    · exact .inr ⟨rfl, h, g, k⟩
    · exact .inl ⟨t, rfl, ht, h⟩
  · rintro (⟨t, rfl, ht, h⟩ | ⟨rfl, h, g, k⟩)
    · exact .inr ⟨rfl, _, ⟨t, ht, rfl⟩, h⟩
    · exact .inl ⟨rfl, ⟨h, g⟩, k⟩

theorem mem_separations {c : Instr} {s : State} :
    c ∈ separations s ↔ ∃ y t, c = .separationElapse y ∧ (s.cyl y).lastEnd = some t ∧
      t + BitVec.ofNat 32 s.queue.limits.minSeparation = s.control.timebase := by
  simp only [separations, List.mem_flatMap, mem_allCylinders, true_and, mem_whenDue, sinceEnd, beq_iff_eq,
    Option.map_eq_some_iff, State.now, later]
  grind

theorem mem_expiries {c : Instr} {s : State} :
    c ∈ expiries s ↔
      c ∈ whenDue (timeUp s.link.turnaround s) .turnaroundExpiry ∨
      c ∈ whenDue (stallDue s.tracker.crankTimer s.tracker.wheel.stallTime s.now) .crankStall ∨
      c ∈ whenDue (stallDue s.tracker.camTimer s.tracker.cam.stallTime s.now) .camStall ∨
      (∃ r ∈ s.queue.requests, c ∈ requestDue s r) ∨ (∃ x, c ∈ bankDue s x) ∨ ∃ y, c ∈ cylDue s y := by
  have banks : (∃ x, c ∈ bankDue s x) ↔ c ∈ bankDue s .a ∨ c ∈ bankDue s .b :=
    ⟨fun ⟨x, hx⟩ => by cases x <;> simp [hx], fun h => h.elim (⟨_, ·⟩) (⟨_, ·⟩)⟩
  simp only [expiries, List.mem_append, List.mem_flatMap, mem_allCylinders, true_and, banks, or_assoc]

/-! ### Each expiry once -/

theorem whenDue_sublist (b : Bool) (c : Instr) : (whenDue b c).Sublist [c] := by
  cases b <;> simp [whenDue]

/-- Every expiry that is not a request's, once. -/
def partTimers : List Instr :=
  [.turnaroundExpiry, .crankStall, .camStall] ++
    ([.peakTimeoutAbort .a, .durationEnd .a, .rechargeComplete .a] ++
      [.peakTimeoutAbort .b, .durationEnd .b, .rechargeComplete .b]) ++
    allCylinders.flatMap (fun c => [.separationElapse c, .lastEndInvalid c])

theorem bankDue_sublist (s : State) (x : Bank) :
    (bankDue s x).Sublist [.peakTimeoutAbort x, .durationEnd x, .rechargeComplete x] :=
  ((whenDue_sublist _ _).append (whenDue_sublist _ _)).append (whenDue_sublist _ _)

theorem flatMap_sublist {α β : Type} {f g : α → List β} (l : List α) (h : ∀ a, (f a).Sublist (g a)) :
    (l.flatMap f).Sublist (l.flatMap g) := by
  induction l with
  | nil => exact .refl _
  | cons a l ih => simpa using (h a).append ih

/-- The requests' expiries are apart from each other, since each names its request. -/
theorem requestDues_nodup {s : State} {rs : List Request}
    (apart : rs.Pairwise (fun a b => ¬ (a.cylinder = b.cylinder ∧ a.kind = b.kind ∧ a.cycle = b.cycle))) :
    (rs.flatMap (requestDue s)).Nodup := by
  refine List.nodup_flatMap.mpr ⟨fun r _ => ?_, apart.imp fun {a b} hne c ha hb => ?_⟩
  · unfold requestDue
    cases r.state
    case armed | due => exact (whenDue_sublist _ _).nodup (List.nodup_singleton _)
    all_goals exact List.nodup_nil
  · refine hne ?_
    rw [mem_requestDue] at ha hb
    have ids : a.id = b.id := by grind
    simpa [Request.id] using ids

theorem expiries_nodup {s : State} (apart : s.queue.requests.Pairwise
    (fun a b => ¬ (a.cylinder = b.cylinder ∧ a.kind = b.kind ∧ a.cycle = b.cycle))) : (expiries s).Nodup := by
  have parts : (expiries s).Perm ((whenDue (timeUp s.link.turnaround s) .turnaroundExpiry ++
      whenDue (stallDue s.tracker.crankTimer s.tracker.wheel.stallTime s.now) .crankStall ++
      whenDue (stallDue s.tracker.camTimer s.tracker.cam.stallTime s.now) .camStall) ++ (bankDue s .a ++ bankDue s .b) ++
      allCylinders.flatMap (cylDue s) ++ s.queue.requests.flatMap (requestDue s)) := by
    simp only [expiries, List.append_assoc]
    refine .append_left _ (.append_left _ (.append_left _ ?_))
    exact List.perm_append_comm.trans (by simp)
  have timers := (((whenDue_sublist (timeUp s.link.turnaround s) .turnaroundExpiry).append
    (whenDue_sublist (stallDue s.tracker.crankTimer s.tracker.wheel.stallTime s.now) .crankStall)).append
    (whenDue_sublist (stallDue s.tracker.camTimer s.tracker.cam.stallTime s.now) .camStall)).append
    ((bankDue_sublist s .a).append (bankDue_sublist s .b)) |>.append
    (flatMap_sublist allCylinders fun c => (whenDue_sublist (separatesAtOnce s c) (.separationElapse c)).append
      (whenDue_sublist (timeUp (sinceEnd s c 8000) s) (.lastEndInvalid c)))
  have timersApart : partTimers.Nodup := by decide
  rw [parts.nodup_iff, List.nodup_append]
  refine ⟨timers.nodup timersApart, requestDues_nodup apart, fun a ha b hb => ?_⟩
  rintro rfl
  obtain ⟨r, -, hr⟩ := List.mem_flatMap.mp hb
  have kept : a ∈ partTimers := timers.subset ha
  obtain ⟨-, -, rfl⟩ | ⟨-, -, rfl⟩ := mem_requestDue.mp hr <;> simp [partTimers, allCylinders] at kept

/-- Settles O2: what is put in the queue is an arrangement of the expiries; which those are is read off member by
member, and each names its own timer. -/
theorem idleTakesExpiriesThenPassesTime : Obligations.IdleTakesExpiriesThenPassesTime := by
  refine ⟨fun s none running high => ?_, fun c s => ⟨?_, mem_separations, expiries_nodup⟩⟩
  case refine_1 =>
    rw [step_of_no_command none, idle_of_running running high]
    by_cases due : expiries s = []
    · obtain ⟨p, n, heq, hp⟩ := enqueue_eq (expiries (tick s) ++ separations (tick s)) (tick s)
      refine ⟨p, n, ?_, ?_⟩
      · rw [if_pos due, idleRun, due]
        exact congrArg _ heq
      · rw [if_pos due]
        exact hp
    · obtain ⟨p, n, heq, hp⟩ := enqueue_eq (expiries s) s
      refine ⟨p, n, ?_, ?_⟩
      · rw [if_neg due, idleRun, if_neg (by simpa using due)]
        exact congrArg _ heq
      · rw [if_neg due]
        exact hp
  case refine_2 =>
    rw [mem_expiries]
    simp only [mem_whenDue, mem_requestDue, mem_bankDue, mem_cylDue, timeUp_iff, stallDue_iff, Request.id, State.now,
      and_or_left, exists_or, or_assoc]

/-! ### A warm-up and STANDBY (R197, R198; log 1, log 6) -/

theorem step_of_warmup {s : State} (none : s.pending = []) (high : s.pins.resetLow = false)
    (warmup : s.control.mode = .warmup) : step s = .next (idleWarmup s) := by
  simp [step_of_no_command none, idle, high, warmup]

theorem run_succ {s t : State} {k : Nat} (h : step s = .next t) :
    Host.Core.run Sys2Proof.core (k + 1) s = Host.Core.run Sys2Proof.core k t := by
  have h : Sys2Proof.core.step s = .next t := h
  simp only [Host.Core.run, h]

/-- A warm-up with nothing sent: one step for each tu left, one that puts WARMUP_END in the queue, one that runs it. -/
theorem run_warmup (n : Nat) {s : State} (none : s.pending = []) (high : s.pins.resetLow = false)
    (warmup : s.control.mode = .warmup) (left : s.control.warmupLeft = n) :
    Host.Core.run Sys2Proof.core (n + 2) s = exec .warmupEnd { s with control := { s.control with warmupLeft := 0 } } := by
  induction n generalizing s with
  | zero =>
    rw [run_succ (step_of_warmup none high warmup), idleWarmup, if_pos left, run_succ (t := _) rfl]
    have same : ({ s with pending := [] } : State) = { s with control := { s.control with warmupLeft := 0 } } := by
      rw [← left, ← none]
    exact congrArg (exec .warmupEnd) same
  | succ n ih =>
    have positive : s.control.warmupLeft ≠ 0 := by omega
    rw [run_succ (step_of_warmup none high warmup), idleWarmup, if_neg positive]
    exact ih (s := s.setControl { s.control with warmupLeft := s.control.warmupLeft - 1 }) none high warmup (by simp [left])

/-- Settles O3: the branches of the idle step by mode; a warm-up's end by induction on what is left of it. -/
theorem warmupAndStandbyPassTheirTime : Obligations.WarmupAndStandbyPassTheirTime := by
  intro s none
  refine ⟨fun low => ?_, fun high warmup => step_of_warmup none high warmup, fun high standby => ?_,
    fun high warmup => run_warmup _ none high warmup rfl⟩
  · simp [step_of_no_command none, idle, low]
  · simp [step_of_no_command none, idle, high, standby, idleStandby]

/-! ### The reset state -/

theorem reset_bounded : Bounded State.reset where
  notices := by decide
  alert := rfl
  requests := by decide
  depthMark := by decide
  age := by decide
  received := by decide
  reference := by decide
  failures c := by cases c <;> decide

theorem reset_supervised : Supervised State.reset := ⟨rfl, rfl, rfl, rfl, rfl, fun _ => rfl⟩

theorem reset_outputsFollow : OutputsFollow State.reset where
  oneOfBank _ := Nat.zero_le _
  oneOfCylinder _ := Nat.zero_le _
  boost x := by cases x <;> rfl
  hold x := by cases x <;> rfl
  pulse x := by cases x <;> rfl
  sel c := by cases c <;> rfl
  idle _ _ := rfl

theorem reset_timely : Timely State.reset := by
  refine timely_of_empty ⟨?_, by simp [State.reset, Tracker.reset], nofun, rfl, nofun⟩
    (by simp [State.reset, LimitsTimely]) rfl (fun _ _ _ => rfl)
  rintro k (rfl | rfl) <;> exact empty_bounded

/-- Settles O53, one invariant at a time; with no request in the queue, the order and the twins hold of nothing. -/
theorem resetStateIsSound : Obligations.ResetStateIsSound :=
  ⟨reset_bounded, reset_outputsFollow, reset_supervised, reset_plansInOrder, reset_timely, List.Pairwise.nil,
    noTwins_of_empty rfl List.Pairwise.nil⟩

end Sys2Proof.Machine

/-! PROOFS. The Frame Port: a frame read back and carried out, or discarded (R164 to R173). -/

namespace Sys2Proof.Machine

open Sys2Proof.Safety

/-! ### The checks of a frame (R166) -/

theorem byte_toNat {n : Nat} (h : n < 256) : (byte n).toNat = n := by
  simp [byte, BitVec.toNat_ofNat, Nat.mod_eq_of_lt h]

/-- What the kind byte makes of a frame that is whole and whose CRC matches (R166, step 5). -/
def kindVerdict (kind tag : Byte) (p : List Byte) : FrameVerdict :=
  match Command.ofCode kind with
  | some c => .good c tag p
  | none => .unknownKind kind tag

/-- A frame as long as its length byte says, whatever follows it: the CRC and then the kind decide. -/
theorem judgeFrame_of_length {kind tag check : Byte} {p extra : List Byte} {count : Nat} (fits : p.length ≤ 60)
    (whole : 4 + p.length ≤ count) :
    judgeFrame (kind :: tag :: byte p.length :: p ++ check :: extra) count =
      if crc (kind :: tag :: byte p.length :: p) = check then kindVerdict kind tag p else .badCrc := by
  have len : (byte p.length).toNat = p.length := byte_toNat (by omega)
  have enough : ¬ count < 3 ∧ ¬ 60 < p.length ∧ ¬ count < 4 + p.length := by omega
  obtain ⟨h3, h60, hcount⟩ := enough
  simp only [List.cons_append, judgeFrame, len, if_neg h3, if_neg h60, if_neg hcount, List.drop_left, List.take_left,
    beq_iff_eq]
  rfl

theorem judgeFrame_of_short {bytes : List Byte} {count : Nat} (h : bytes.length < 3) : judgeFrame bytes count = .badLength := by
  match bytes, h with
  | [], _ => rfl
  | [_], _ => rfl
  | [_, _], _ => rfl

theorem judgeFrame_of_bad_length {kind tag len : Byte} {rest : List Byte} {count : Nat}
    (h : 60 < len.toNat ∨ count < 4 + len.toNat) : judgeFrame (kind :: tag :: len :: rest) count = .badLength := by
  simp only [judgeFrame]
  split
  · rfl
  · rcases h with h | h <;> simp [h]

theorem frameBytes_length (c : Command) (tag : Byte) (p : List Byte) : (frameBytes c tag p).length = 4 + p.length := by
  simp [frameBytes]; omega

theorem judgeFrame_frameBytes (c : Command) (tag : Byte) {p : List Byte} (fits : p.length ≤ 60) {count : Nat}
    (whole : 4 + p.length ≤ count) : judgeFrame (frameBytes c tag p) count = .good c tag p := by
  refine (judgeFrame_of_length fits whole).trans ?_
  rw [byte, if_pos rfl, kindVerdict, ofCode_code]

/-- Settles O4: the bits spell the bytes, and the length and the CRC are those the frame was written with. -/
theorem writtenFrameReadsBack : Obligations.WrittenFrameReadsBack := fun c tag p fits =>
  ⟨bytesOfBits_bitsOfBytes _, judgeFrame_frameBytes c tag fits (frameBytes_length c tag p).ge⟩

/-! ### The release of a transaction that carries (R165, R166) -/

/-- The first 64 bytes are judged, with the count to 255, on the link as released. -/
theorem exec_csNRelease_of_listening {s : State} (h : Listening s) (bits : List Bool) :
    exec (.csNRelease bits) s = .next (settleFrame
      (judgeFrame ((bytesOfBits bits).take 64) (min 255 (bytesOfBits bits).length)) (min 255 (bytesOfBits bits).length)
      (linkReleased s)) := by
  have received : s.link.receiveBits bits =
      { s.link with rx := (bytesOfBits bits).take 64, rxCount := min 255 (bytesOfBits bits).length } := by
    rw [FramePort.receiveBits, receive_all _ _ (by simp [h.bytes]) (by simp [h.count]), h.bytes, h.count]
    simp
  show Host.Outcome.next (released bits s) = _
  rw [released, h.carried]
  simp only [h.running, if_true, releaseCarried, received]
  rfl

/-- Settles O5: the frame is judged good, and its command is carried out by its owner, as the command itself is. -/
theorem sentFrameHasItsCommandsEffect : Obligations.SentFrameHasItsCommandsEffect := by
  intro i bits s wf hbits listening
  obtain ⟨⟨c, tag, p⟩, hframe, rfl⟩ := Option.map_eq_some_iff.mp hbits
  have fits : p.length ≤ 60 := by
    simp only [Instr.wellFormed, Instr.payloadFits, hframe, Bool.and_eq_true, decide_eq_true_eq] at wf
    exact wf.1
  have length := frameBytes_length c tag p
  dsimp only
  rw [exec_csNRelease_of_listening listening, bytesOfBits_bitsOfBytes, List.take_of_length_le (by omega),
    judgeFrame_frameBytes c tag fits (by omega), exec_of_frame hframe]
  rfl

/-- The bytes kept of a frame as long as its length byte says: the frame and some of what follows. -/
theorem take_of_frame {kind tag check : Byte} {p extra : List Byte} (fits : p.length ≤ 60) :
    ((kind :: tag :: byte p.length :: p) ++ check :: extra).take 64 =
      (kind :: tag :: byte p.length :: p) ++ check :: extra.take (60 - p.length) := by
  rw [List.take_append, List.take_of_length_le (by simp; omega)]
  have rest : 64 - (kind :: tag :: byte p.length :: p).length = 60 - p.length + 1 := by simp; omega
  rw [rest, List.take_succ_cons]

theorem exec_csNRelease_of_length {s : State} (h : Listening s) {kind tag check : Byte} {p extra : List Byte}
    (fits : p.length ≤ 60) :
    ∃ count, exec (.csNRelease (bitsOfBytes (kind :: tag :: byte p.length :: p ++ check :: extra))) s =
      .next (settleFrame (if crc (kind :: tag :: byte p.length :: p) = check then kindVerdict kind tag p else .badCrc)
        count (linkReleased s)) := by
  rw [exec_csNRelease_of_listening h, bytesOfBits_bitsOfBytes, take_of_frame fits, judgeFrame_of_length fits
    (by simp; omega)]
  exact ⟨_, rfl⟩

/-- Settles O6: the verdict of each failed check, and the reply the Frame Port makes of it. -/
theorem failedFrameIsDiscarded : Obligations.FailedFrameIsDiscarded := by
  refine fun s listening => ⟨fun bits short => ?_, fun kind tag len rest bad => ?_, fun kind tag check p extra fits bad => ?_,
    fun kind tag p extra fits unknown => ?_⟩
  · have length := bytesOfBits_length bits
    rw [exec_csNRelease_of_listening listening, List.take_of_length_le (by omega),
      judgeFrame_of_short (by omega), length, Nat.min_eq_right (by omega)]
    rfl
  · rw [exec_csNRelease_of_listening listening, bytesOfBits_bitsOfBytes]
    simp only [List.length_cons, List.take_succ_cons]
    rw [judgeFrame_of_bad_length (by omega)]
    rfl
  · obtain ⟨count, h⟩ := exec_csNRelease_of_length (check := check) (extra := extra) listening fits
    rw [h, if_neg (Ne.symm bad)]
    rfl
  · obtain ⟨count, h⟩ := exec_csNRelease_of_length (check := _) (extra := extra) listening fits
    rw [h, if_pos rfl, kindVerdict, unknown]
    rfl

/-! ### Transactions (R162, R164, R165) -/

/-- The bits of a row of bytes, most significant first; none after the last. -/
theorem bitsOfBytes_getElem? (bs : List Byte) (i : Nat) :
    (bitsOfBytes bs)[i]? = bs[i / 8]?.map (fun b => b.getMsbD (i % 8)) := by
  induction bs generalizing i with
  | nil => rfl
  | cons b bs ih =>
    by_cases h : i < 8
    · rw [bitsOfBytes, List.getElem?_append_left (by simpa [bitsOfByte] using h), Nat.div_eq_of_lt h, Nat.mod_eq_of_lt h]
      interval_cases i <;> simp [bitsOfByte, BitVec.getMsbD]
    · obtain ⟨j, rfl⟩ : ∃ j, i = j + 8 := ⟨i - 8, by omega⟩
      have eight : (bitsOfByte b).length = 8 := rfl
      rw [bitsOfBytes, List.getElem?_append_right (by omega), eight, Nat.add_sub_cancel, ih]
      simp

theorem misoBit_eq (s : State) (i : Nat) :
    misoBit s i = s.link.miso.map (fun frame => (bitsOfBytes frame)[i]?.getD false) := by
  unfold misoBit misoByte
  cases s.link.miso with
  | none => rfl
  | some frame =>
    simp only [Option.map_some, bitsOfBytes_getElem?, List.getD_eq_getElem?_getD]
    cases frame[i / 8]? <;> simp

/-- Settles O7: the judgment by mode, case by case. -/
theorem transactionsAreJudgedByMode : Obligations.TransactionsAreJudgedByMode := by
  refine ⟨fun s high => ?fall, fun s mosi => ⟨fun running busy => ?busy, ?closed, fun e running turnaround out => ?expiry⟩,
    fun s mosi i => ⟨fun low => ?low, fun none => ?none, ?miso⟩⟩
  case fall =>
    show Host.Outcome.next (if s.pins.resetLow then s else fallJudged s) = _
    simp only [high, Bool.false_eq_true, if_false, fallJudged]
    cases mode : s.control.mode with
    | warmup => rfl
    | run => dsimp only; split <;> rfl
    | standby =>
      simp only [wakeBy, openTransaction, State.setLink_control, mode, beq_self_eq_true, Bool.true_and]
      split <;> rfl
  case busy =>
    show Host.Outcome.next (released mosi s) = _
    rw [released, busy]
    simp only [running, if_true]
    rfl
  case closed =>
    rintro (h | h) <;> (show Host.Outcome.next (released mosi s) = _; rw [released, h]; rfl)
  case expiry =>
    show Host.Outcome.next (if s.running then turnaroundExpires s else s) = _
    rw [if_pos running, turnaroundExpires, turnaround]
    exact congrArg _ (if_pos out)
  case low => exact congrArg _ (if_pos low)
  case none =>
    show Host.Outcome.next (released mosi s) = _
    rw [released, none]
    rfl
  case miso =>
    rw [misoBit_eq]
    cases s.link.miso <;> rfl

/-! ### The mode and the payload's length (R164, R171) -/

theorem frame?_instr (c : Command) (tag : Byte) (p : List Byte) : (c.instr tag p).frame? = some (c, tag, p) := by
  cases c <;> rfl

theorem owner_of_wrong_length {c : Command} {n : Nat} {p : List Byte} (s : State) (hn : payloadLength c = some n)
    (wrong : p.length ≠ n) : owner c p s = refuse s .badValue [] := by
  cases c <;> cases hn <;> exact if_neg wrong

theorem ownSetRing_of_wrong_length {p : List Byte} {s : State} (stopped : s.tracker.sync = .stopped)
    (wrong : p.length ≠ 4 + 4 * u8 p 0) : ownSetRing p s = refuse s .badValue [] := by
  have none : ringOf p = none := by simp [ringOf, wrong]
  simp [ownSetRing, stopped, none]

theorem ownWritePlan_of_wrong_length {p : List Byte} {s : State} (idle : s.store.pendingSwap = none)
    (wrong : p.length ≠ 2 + 5 * u8 p 1) : ownWritePlan p s = refuse s .badValue [1, 0xFF] := by
  have first : planFailure s.table.planLead p = some (1, 255) := by simp [planFailure, planCheckOne, wrong]
  simp only [ownWritePlan, idle, first]
  rfl

theorem ownSetLimp_of_wrong_length {p : List Byte} (s : State) (wrong : p.length ≠ 4) :
    ownSetLimp p s = refuse s .badValue [1, 0xFF] := by
  simp only [ownSetLimp, limpFailure, if_pos wrong]
  rfl

/-- Settles O8: outside RUN nothing is carried out, and the length is every owner's first check. -/
theorem frameCommandsNeedRunAndTheirLength : Obligations.FrameCommandsNeedRunAndTheirLength := by
  refine ⟨fun c tag p s stopped => ?_, fun c tag p s running => ⟨fun n hn wrong => ?_, fun stopped wrong => ?_,
    fun idle wrong => ?_, fun wrong => ?_⟩⟩
  · rw [exec_of_frame (frame?_instr c tag p), carryOut_stopped stopped]
  · exact exec_of_answer (frame?_instr c tag p) running (owner_of_wrong_length s hn wrong)
  · exact exec_of_answer rfl running (ownSetRing_of_wrong_length stopped wrong)
  · exact exec_of_answer rfl running (ownWritePlan_of_wrong_length idle wrong)
  · exact exec_of_answer rfl running (ownSetLimp_of_wrong_length s wrong)

end Sys2Proof.Machine

/-! PROOFS. The two reads of the running part: READ_STATUS in its 92 bytes and READ_ANGLE (R27, R206). -/

namespace Sys2Proof.Machine

open Sys2Proof.Safety

/-! ### READ_STATUS -/

/-- The three bytes of a cylinder as R206 lays them out. -/
theorem cylBytes_eq (s : State) (c : Cylinder) :
    cylBytes s c =
      [byte (match s.table.ring.findIdx? (fun e => e.cylinder == c) with | some i => i | none => 255),
       byte (modeCode (s.cyl c).hostMode +
         4 * modeCode (if (s.cyl c).masked || (s.cyl c).flushPending then .cut else (s.cyl c).hostMode) +
         16 * bit (s.cyl c).masked + 32 * bit (s.cyl c).flushPending),
       byte (s.cyl c).failures] := by
  unfold cylBytes firingPosition
  cases s.table.ring.findIdx? (fun e => e.cylinder == c) <;> rfl

theorem four_mul_chargeCode (c : Charge) :
    4 * chargeCode c = match c with | .ready => 0 | .charging none => 4 | .charging (some _) => 8 := by
  rcases c with _ | _ | _ <;> rfl

theorem rechargeLeft_eq (d : DriveBank) (now : Time) :
    rechargeLeft d now = (match d.charge with | .charging (some t) => (t - now).toNat | _ => 0) / 4 := by
  unfold rechargeLeft
  rcases d.charge with _ | _ | t
  · exact (Nat.zero_div 4).symm
  · exact (Nat.zero_div 4).symm
  · rfl

theorem occupantBytes_eq (o : Option Request) :
    occupantBytes o = match o with
      | some r => [byte (cylNumber r.cylinder), byte (kindCode r.kind + if r.state = .hold then 8 else 0), r.cycle]
      | none => [0xFF, 0xFF, 0xFF] := by
  cases o with
  | none => rfl
  | some r =>
    have phase : 8 * bit (r.state == .hold) = if r.state = .hold then 8 else 0 := by cases r.state <;> rfl
    simp only [occupantBytes, phase]

theorem find?_eq_occupant (x : Bank) (s : State) :
    s.queue.requests.find? (fun r => r.bank == x && (r.state == .boost || r.state == .hold)) = occupant x s := by
  have drives : ∀ st : RequestState, (st == .boost || st == .hold) = driving st := fun st => by cases st <;> rfl
  simp only [occupant, drives]

/-- The bytes of a drive bank as R206 lays them out. -/
theorem driveBytes_eq (s : State) (x : Bank) :
    driveBytes s x =
      [byte (bit (s.drive x).locked + 2 * bit (s.shortLevel x) +
        (match (s.drive x).charge with | .ready => 0 | .charging none => 4 | .charging (some _) => 8))] ++
      le16 ((match (s.drive x).charge with | .charging (some t) => (t - s.control.timebase).toNat | _ => 0) / 4) ++
      (match s.queue.requests.find? (fun r => r.bank == x && (r.state == .boost || r.state == .hold)) with
        | some r => [byte (cylNumber r.cylinder), byte (kindCode r.kind + if r.state = .hold then 8 else 0), r.cycle]
        | none => [0xFF, 0xFF, 0xFF]) ++
      [byte (waiting x s).length, byte (treeCode (s.drive x).tree)] := by
  rw [find?_eq_occupant, driveBytes, four_mul_chargeCode, rechargeLeft_eq, occupantBytes_eq]
  rfl

theorem noCrank_eq (f : Fueling) : noCrank f = decide (f.lastSync = .camOnly ∧ f.limpOn = false) := by
  unfold noCrank
  cases f.lastSync <;> cases f.limpOn <;> rfl

theorem occupantBytes_length (o : Option Request) : (occupantBytes o).length = 3 := by cases o <;> rfl

theorem statusBytes_length (s : State) : (statusBytes s).length = 92 := by
  have cylinders : ∀ c, (cylBytes s c).length = 3 := fun _ => rfl
  have banks : ∀ x, (driveBytes s x).length = 8 := fun x => by
    simp [driveBytes, le16, occupantBytes_length]
  simp [statusBytes, allCylinders, cylinders, banks, storeBytes, queueBytes, limitBytes, fuelingBytes, controlBytes, le16,
    le16s]

/-! ### READ_ANGLE -/

theorem estimateElapsed_eq (t now : Time) :
    estimateElapsed t now = if (now - t).toNat < 2 ^ 31 then (now - t).toNat else 0 := by
  simp only [estimateElapsed, reached_iff, elapsed]

theorem angleAt_of_crank {t : Tracker} {time now : Time} {α i p : Nat} (sync : t.sync = .fullSync ∨ t.sync = .phaseHeld)
    (edge : t.lastEdge = some ⟨time, some α⟩) (tooth : t.toothIndex = some i) (predicted : t.history.predicted = some p) :
    t.angleAt now = some (crankEstimate t.wheel.wheel α time (spanAfter t.wheel.wheel i) p now) := by
  have angle : t.crankAngle now = some (crankEstimate t.wheel.wheel α time (spanAfter t.wheel.wheel i) p now) := by
    simp only [Tracker.crankAngle, edge, predicted, tooth, Option.getD_some]
  rcases sync with h | h <;> simp only [Tracker.angleAt, h, angle]

theorem angleAt_of_cam {t : Tracker} {time now : Time} {c : Nat} (sync : t.sync = .camOnly)
    (edge : t.camHistory.lastEdge = some time) (period : t.camHistory.period = some c) :
    t.angleAt now = some (camEstimate t.cam.gamma c time now) := by
  simp only [Tracker.angleAt, sync, Tracker.camAngle, edge, period]

theorem angleAt_of_no_angle {t : Tracker} {now : Time} (sync : t.sync = .stopped ∨ t.sync = .seeking ∨ t.sync = .crankSync) :
    t.angleAt now = none := by
  rcases sync with h | h | h <;> simp only [Tracker.angleAt, h]

/-- The reply of READ_ANGLE with the angle it carries. -/
theorem exec_readAngle {tag : Byte} {s : State} {angle : Nat} (running : s.running = true)
    (h : (s.tracker.angleAt s.now).getD 65535 = angle) :
    exec (.readAngle tag []) s = .next (answered s .ok tag
      ([byte (syncCode s.tracker.sync), s.tracker.cycle, byte s.tracker.speed, byte (s.tracker.speed / 256)] ++
        le32 s.control.timebase.toNat ++ [byte angle, byte (angle / 256)])) := by
  subst h
  exact exec_of_answer rfl running rfl

/-- Settles O9: the reply is laid out as the sum of its parts, each part spelled out; READ_ANGLE splits on the sync
state. -/
theorem statusAndAngleRepliesFollowTheLayout : Obligations.StatusAndAngleRepliesFollowTheLayout := by
  refine ⟨fun tag s running => ?_, fun tag s angle running h => ?_⟩
  · refine ⟨statusBytes s, exec_of_answer rfl running rfl, statusBytes_length s, ?_⟩
    simp only [statusBytes, allCylinders, List.flatMap_cons, List.flatMap_nil, List.append_nil, List.append_assoc,
      cylBytes_eq, driveBytes_eq, fuelingBytes, cutReasons, noCrank_eq]
    rfl
  · refine exec_readAngle running ?_
    obtain ⟨sync, t, α, i, p, e, edge, tooth, predicted, rfl, rfl⟩ | ⟨sync, t, c, e, edge, period, rfl, rfl⟩ | ⟨sync, rfl⟩ := h
    · rw [angleAt_of_crank sync edge tooth predicted, ← estimateElapsed_eq]
      rfl
    · rw [angleAt_of_cam sync edge period, ← estimateElapsed_eq]
      rfl
    · rw [angleAt_of_no_angle sync]
      rfl

end Sys2Proof.Machine

/-! PROOFS. Commands that replace settings: the wheel and the cam (R4, R5), the limp plan (R80), the wake settings with
the wake sources (R194, R197), and the modes and masks of cylinders (R51, R55). -/

namespace Sys2Proof.Machine

open Sys2Proof.Safety

/-! ### Codes in bytes (R203) -/

theorem wheelOfCode_byte (b : Byte) :
    wheelOfCode b.toNat = if 3 < b.toNat then none else
      some (if b = 0 then .w36m1 else if b = 1 then .w36m2 else if b = 2 then .w60m1 else .w60m2) := by
  revert b; decide +kernel

theorem edgeOfCode_byte (b : Byte) :
    edgeOfCode b.toNat = if 1 < b.toNat then none else some (if b = 0 then .rising else .falling) := by
  revert b; decide +kernel

theorem sensorOfCode_byte (b : Byte) :
    sensorOfCode b.toNat = if 1 < b.toNat then none else some (if b = 0 then .plain else .directional) := by
  revert b; decide +kernel

theorem modeOfCode_byte (b : Byte) :
    modeOfCode b.toNat = if 2 < b.toNat then none else some (if b = 0 then .fire else if b = 1 then .shadow else .cut) := by
  revert b; decide +kernel

theorem warmupOfCode_byte (b : Byte) :
    warmupOfCode b.toNat = if 3 < b.toNat then none else
      some (if b = 0 then .us128 else if b = 1 then .us512 else if b = 2 then .ms2 else .ms8) := by
  revert b; decide +kernel

/-! ### SET_WHEEL and SET_CAM -/

theorem wheelOf_eq (w e k t0 t1 m0 m1 a : Byte) :
    wheelOf [w, e, k, t0, t1, m0, m1, a] =
      if 3 < w.toNat ∨ 1 < e.toNat ∨ 1 < k.toNat ∨ word t0 t1 < 20 ∨ 500 < word t0 t1 ∨ word m0 m1 < 50 ∨
          1000 < word m0 m1 ∨ 4 < a.toNat then none
      else some
        { wheel := if w = 0 then .w36m1 else if w = 1 then .w36m2 else if w = 2 then .w60m1 else .w60m2
          activeEdge := if e = 0 then .rising else .falling
          sensor := if k = 0 then .plain else .directional
          dirThreshold := 4 * word t0 t1, stallTime := 4000 * word m0 m1, accel := a.toNat } := by
  have fields : wheelOf [w, e, k, t0, t1, m0, m1, a] =
      match wheelOfCode w.toNat, edgeOfCode e.toNat, sensorOfCode k.toNat with
      | some w, some e, some k =>
        if 20 ≤ word t0 t1 && word t0 t1 ≤ 500 && 50 ≤ word m0 m1 && word m0 m1 ≤ 1000 && a.toNat ≤ 4 then
          some { wheel := w, activeEdge := e, sensor := k, dirThreshold := 4 * word t0 t1
                 stallTime := 4000 * word m0 m1, accel := a.toNat }
        else none
      | _, _, _ => none := rfl
  rw [fields, wheelOfCode_byte, edgeOfCode_byte, sensorOfCode_byte]
  by_cases hw : 3 < w.toNat
  · simp [hw]
  by_cases he : 1 < e.toNat
  · simp [hw, he]
  by_cases hk : 1 < k.toNat
  · simp [hw, he, hk]
  have range : (20 ≤ word t0 t1 && word t0 t1 ≤ 500 && 50 ≤ word m0 m1 && word m0 m1 ≤ 1000 && a.toNat ≤ 4) =
      decide (¬ (word t0 t1 < 20 ∨ 500 < word t0 t1 ∨ word m0 m1 < 50 ∨ 1000 < word m0 m1 ∨ 4 < a.toNat)) := by
    rw [Bool.eq_iff_iff]
    simp only [Bool.and_eq_true, decide_eq_true_eq]
    omega
  simp only [hw, he, hk, if_false, false_or, range, decide_eq_true_eq, ite_not]

theorem camOf_eq (g0 g1 h0 h1 m0 m1 e : Byte) :
    camOf [g0, g1, h0, h1, m0, m1, e] =
      if 11519 < word g0 g1 ∨ word h0 h1 < 32 ∨ 960 < word h0 h1 ∨ word m0 m1 < 500 ∨ 4000 < word m0 m1 ∨ 1 < e.toNat then
        none
      else some
        { gamma := word g0 g1, halfWidth := word h0 h1, stallTime := 4000 * word m0 m1
          polarity := if e = 0 then .rising else .falling } := by
  have fields : camOf [g0, g1, h0, h1, m0, m1, e] =
      match edgeOfCode e.toNat with
      | some e =>
        if word g0 g1 ≤ 11519 && 32 ≤ word h0 h1 && word h0 h1 ≤ 960 && 500 ≤ word m0 m1 && word m0 m1 ≤ 4000 then
          some { gamma := word g0 g1, halfWidth := word h0 h1, stallTime := 4000 * word m0 m1, polarity := e }
        else none
      | none => none := rfl
  rw [fields, edgeOfCode_byte]
  by_cases he : 1 < e.toNat
  · simp [he]
  have range : (word g0 g1 ≤ 11519 && 32 ≤ word h0 h1 && word h0 h1 ≤ 960 && 500 ≤ word m0 m1 && word m0 m1 ≤ 4000) =
      decide (¬ (11519 < word g0 g1 ∨ word h0 h1 < 32 ∨ 960 < word h0 h1 ∨ word m0 m1 < 500 ∨ 4000 < word m0 m1)) := by
    rw [Bool.eq_iff_iff]
    simp only [Bool.and_eq_true, decide_eq_true_eq]
    omega
  simp only [he, if_false, or_false, range, decide_eq_true_eq, ite_not]

theorem ownSetWheel_eq (w e k t0 t1 m0 m1 a : Byte) {s : State} (stopped : s.tracker.sync = .stopped) :
    ownSetWheel [w, e, k, t0, t1, m0, m1, a] s =
      match wheelOf [w, e, k, t0, t1, m0, m1, a] with
      | none => refuse s .badValue []
      | some k => answerOk (s.setTracker { s.tracker with wheel := k }) [] :=
  if_neg (not_not.mpr stopped)

theorem ownSetCam_eq (g0 g1 h0 h1 m0 m1 e : Byte) {s : State} (stopped : s.tracker.sync = .stopped) :
    ownSetCam [g0, g1, h0, h1, m0, m1, e] s =
      match camOf [g0, g1, h0, h1, m0, m1, e] with
      | none => refuse s .badValue []
      | some c => answerOk (s.setTracker { s.tracker with cam := c, camHistory := .cleared, camTimer := none }) [] :=
  if_neg (not_not.mpr stopped)

/-- Settles O14: the tracker's state is judged first, then every value of the payload at once. -/
theorem trackerSettingsAreReplacedInStopped : Obligations.TrackerSettingsAreReplacedInStopped := by
  refine ⟨fun tag w e k t0 t1 m0 m1 a s running => ?_, fun tag g0 g1 h0 h1 m0 m1 e s running => ?_⟩
  · by_cases turning : s.tracker.sync ≠ .stopped
    · rw [if_pos turning]
      exact exec_of_answer rfl running (if_pos turning)
    · have own := ownSetWheel_eq w e k t0 t1 m0 m1 a (not_not.mp turning)
      rw [wheelOf_eq] at own
      rw [if_neg turning]
      split
      next bad => rw [if_pos bad] at own; exact exec_of_answer rfl running own
      next good => rw [if_neg good] at own; exact exec_of_owner rfl running own
  · by_cases turning : s.tracker.sync ≠ .stopped
    · rw [if_pos turning]
      exact exec_of_answer rfl running (if_pos turning)
    · have own := ownSetCam_eq g0 g1 h0 h1 m0 m1 e (not_not.mp turning)
      rw [camOf_eq] at own
      rw [if_neg turning]
      split
      next bad => rw [if_pos bad] at own; exact exec_of_answer rfl running own
      next good => rw [if_neg good] at own; exact exec_of_owner rfl running own

/-! ### SET_LIMP -/

theorem parityGood_freshEntry (k : PulseKind) (start : Int) (duration : Nat) :
    parityGood (freshEntry k start duration) = true := by
  simp only [parityGood, freshEntry, bit, beq_iff_eq]
  split <;> omega

/-- A 16-bit field read as a signed number (R200). -/
theorem s16_eq (a0 a1 : Byte) (rest : List Byte) : s16 (a0 :: a1 :: rest) 0 = (a1 ++ a0 : BitVec 16).toInt := by
  have value : (a1 ++ a0 : BitVec 16).toNat = a0.toNat + 256 * a1.toNat := by
    rw [BitVec.toNat_append, Nat.shiftLeft_eq, Nat.mul_comm, ← Nat.two_pow_add_eq_or_of_lt a0.isLt]
    omega
  show (if a0.toNat + 256 * a1.toNat < 32768 then ((a0.toNat + 256 * a1.toNat : Nat) : Int) else _ - 65536) = _
  rw [BitVec.toInt_eq_toNat_cond, value]
  split <;> split <;> first | rfl | omega

/-- Settles O18: check 1 passes, and checks 5 and 6 are judged on the two fields. -/
theorem setLimpReplacesTheLimpPlan : Obligations.SetLimpReplacesTheLimpPlan := by
  intro tag a0 a1 d0 d1 s running
  refine ⟨freshEntry .main (a1 ++ a0 : BitVec 16).toInt (word d0 d1), rfl, rfl, rfl, parityGood_freshEntry _ _ _, ?_⟩
  have checks : limpFailure s.table.planLead [a0, a1, d0, d1] =
      if !startInRange s.table.planLead (a1 ++ a0 : BitVec 16).toInt then some (5, 0)
      else if 10000 < word d0 d1 then some (6, 0)
      else none := by
    rw [← s16_eq a0 a1 [d0, d1]]
    rfl
  have own : ownSetLimp [a0, a1, d0, d1] s =
      match limpFailure s.table.planLead [a0, a1, d0, d1] with
      | some (check, index) => refuse s .badValue [byte check, byte index]
      | none => answerOk (s.setStore { s.store with
          limp := freshEntry .main (a1 ++ a0 : BitVec 16).toInt (word d0 d1) }) [] := by
    rw [← s16_eq a0 a1 [d0, d1]]
    rfl
  have range := startInRange_iff (lead := s.table.planLead) (start := (a1 ++ a0 : BitVec 16).toInt)
  rw [checks] at own
  by_cases outside : (a1 ++ a0 : BitVec 16).toInt < 480 - (s.table.planLead : Int) ∨ 2880 < (a1 ++ a0 : BitVec 16).toInt
  · rw [if_pos (by simp only [Bool.not_eq_true', ← Bool.not_eq_true, range]; omega)] at own
    exact (exec_of_answer (c := .setLimp) rfl running own).trans (congrArg _ (if_pos outside).symm)
  · rw [if_neg (by simp only [Bool.not_eq_true', ← Bool.not_eq_true, range]; omega)] at own
    refine Eq.trans ?_ (congrArg _ (if_neg outside).symm)
    by_cases long : 10000 < word d0 d1
    · rw [if_pos long] at own
      exact (exec_of_answer (c := .setLimp) rfl running own).trans (congrArg _ (if_pos long).symm)
    · rw [if_neg long] at own
      exact (exec_of_owner (c := .setLimp) rfl running own).trans (congrArg _ (if_neg long).symm)

/-! ### SET_WAKE and the wake sources -/

theorem ownSetWake_eq (e w : Byte) (s : State) :
    ownSetWake [e, w] s =
      if 3 < w.toNat ∨ 7 < e.toNat ∨ e = 0 then refuse s .badValue []
      else answerOk (s.setControl { s.control with
        wakeEnables := { crankEdge := e.getLsbD 0, chipSelect := e.getLsbD 1, wakeLevel := e.getLsbD 2 }
        warmupSel := if w = 0 then .us128 else if w = 1 then .us512 else if w = 2 then .ms2 else .ms8 }) [] := by
  have bits : ∀ e : Byte, (e.toNat % 2 == 1) = e.getLsbD 0 ∧ (e.toNat / 2 % 2 == 1) = e.getLsbD 1 ∧
      (e.toNat / 4 % 2 == 1) = e.getLsbD 2 := by decide +kernel
  have zero : e.toNat = 0 ↔ e = 0 := ⟨fun h => BitVec.eq_of_toNat_eq h, fun h => by rw [h]; rfl⟩
  have own : ownSetWake [e, w] s =
      match warmupOfCode w.toNat with
      | none => refuse s .badValue []
      | some w =>
        if e.toNat = 0 || 7 < e.toNat then refuse s .badValue []
        else answerOk (s.setControl { s.control with
          wakeEnables := { crankEdge := e.toNat % 2 == 1, chipSelect := e.toNat / 2 % 2 == 1, wakeLevel := e.toNat / 4 % 2 == 1 }
          warmupSel := w }) [] := rfl
  rw [own, warmupOfCode_byte, (bits e).1, (bits e).2.1, (bits e).2.2]
  by_cases hw : 3 < w.toNat
  · simp [hw]
  simp only [hw, if_false, false_or, Bool.or_eq_true, decide_eq_true_eq, zero, or_comm]

theorem wakeBy_eq (enabled : Bool) (source : WakeSource) (s : State) :
    wakeBy enabled source s =
      if s.control.mode = .standby ∧ enabled = true then beginWarmup (some source) s else s := by
  simp only [wakeBy, Bool.and_eq_true, beq_iff_eq]

/-- Settles O49: the payload's judgment, and the one rule by which a source wakes the part. -/
theorem wakeSettingsAndSources : Obligations.WakeSettingsAndSources := by
  refine ⟨fun tag e w s running => ?_, fun high s stopped => ⟨?_, ?_, ?_⟩⟩
  · have own := ownSetWake_eq e w s
    split
    next bad => rw [if_pos bad] at own; exact exec_of_answer rfl running own
    next good => rw [if_neg good] at own; exact exec_of_owner rfl running own
  · show Host.Outcome.next (if s.running then _ else wakeBy _ _ s) = _
    exact (congrArg _ ((if_neg (by simp [stopped])).trans (wakeBy_eq _ _ s))).trans rfl
  · show Host.Outcome.next (if s.running then _ else wakeBy _ _ s) = _
    exact (congrArg _ ((if_neg (by simp [stopped])).trans (wakeBy_eq _ _ s))).trans rfl
  · show Host.Outcome.next (wakeBy _ _ _) = _
    rw [wakeBy_eq]
    exact (congrArg _ (if_congr (and_congr_right' (Bool.and_eq_true _ _ ▸ Iff.rfl)) rfl rfl)).trans rfl

end Sys2Proof.Machine

/-! PROOFS. Notices: what a raise and a drop leave behind (R100, R179, R181, R185, R188), and the fueling state that is
derived from what the supervisor is handed (R152 to R158). -/

namespace Sys2Proof.Machine

open Sys2Proof.Safety

/-! ### One notice -/

theorem noticeCode_inj {q k : NoticeKind} : noticeCode q = noticeCode k ↔ q = k := by
  have code : ∀ x : NoticeKind, (noticeCode x).val = x.ctorIdx := fun x => by cases x <;> rfl
  refine ⟨fun h => ?_, fun h => h ▸ rfl⟩
  rw [← NoticeKind.ofNat_ctorIdx q, ← NoticeKind.ofNat_ctorIdx k, ← code, ← code, h]

theorem count_kindCounts (u : NoticeUnit) (k q : NoticeKind) :
    (u.count k).kindCounts[noticeCode q] =
      if q = k then min 65535 (u.kindCounts[noticeCode q] + 1) else u.kindCounts[noticeCode q] := by
  have same : (noticeCode k).val = (noticeCode q).val ↔ q = k := by rw [← Fin.ext_iff, noticeCode_inj, eq_comm]
  simp only [NoticeUnit.count, Fin.getElem_fin, Vector.getElem_set, same, inc16, satInc]
  split
  next h => rw [h]
  next => rfl

/-- The record of a fault changes the summary and the first fault (R188). -/
theorem record_eq (u : NoticeUnit) (f : FirstFault) :
    u.record f = { u with summary := (u.record f).summary, first := (u.record f).first } := by
  unfold NoticeUnit.record
  split <;> rfl

/-- An offer changes the queue, ALERT_N and the overflow counter (R181, R182). -/
theorem offer_eq (u : NoticeUnit) (n : Notice) :
    u.offer n = { u with queue := (u.offer n).queue, alert := (u.offer n).alert, overflow := (u.offer n).overflow } := by
  unfold NoticeUnit.offer
  split
  · split <;> rfl
  · rfl

theorem record_summary (u : NoticeUnit) (f : FirstFault) (p : Fin 8) :
    (u.record f).summary.getLsbD p = (u.summary.getLsbD p || decide (faultPosition f.kind = some p)) := by
  have bits : ∀ p q : Fin 8, (faultBit q).getLsbD p = decide (q = p) := by decide
  unfold NoticeUnit.record
  cases h : faultPosition f.kind with
  | none => simp
  | some q => simp only [BitVec.getLsbD_or, bits, Option.some.injEq]

theorem record_first (u : NoticeUnit) (f : FirstFault) :
    (u.record f).first = if (faultPosition f.kind).isSome ∧ u.summary = 0 then some f else u.first := by
  unfold NoticeUnit.record
  cases h : faultPosition f.kind with
  | none => simp
  | some q => simp

theorem offered_iff {mask : BitVec 19} {k : NoticeKind} :
    offered mask k = true ↔ (faultPosition k).isSome ∨ k = .reset ∨ mask.getLsbD (noticeCode k) = true := by
  simp only [offered, isFault, Bool.or_eq_true, beq_iff_eq, or_assoc]

theorem offer_queue_alert_overflow (u : NoticeUnit) (n : Notice) :
    ((u.offer n).queue, (u.offer n).alert, (u.offer n).overflow) =
      if (faultPosition n.kind).isSome ∨ n.kind = .reset ∨ u.mask.getLsbD (noticeCode n.kind) = true then
        if u.queue.length < 32 then (u.queue ++ [n], true, u.overflow)
        else (u.queue, u.alert, min 255 (u.overflow + 1))
      else (u.queue, u.alert, u.overflow) := by
  unfold NoticeUnit.offer
  simp only [offered_iff]
  split
  · split <;> rfl
  · rfl

section Raise

variable (stamp : Time) (k : NoticeKind) (sub : Subject) (bank : Option Bank) (d : Half) (s : State)

/-- The record of a raised notice, should it be the first fault. -/
def faultOf : FirstFault :=
  { kind := k, subject := sub, bank := bank, detail := d, cycle := s.tracker.cycle, angle := s.tracker.angleAt stamp
    timestamp := stamp }

/-- The notice raised. -/
def noticeOf : Notice := { kind := k, subject := sub, cycle := s.tracker.cycle, detail := d, timestamp := stamp }

theorem raiseAt_notices :
    (raiseAt stamp k sub bank d s).notices =
      ((s.notices.count k).record (faultOf stamp k sub bank d s)).offer (noticeOf stamp k sub d s) := rfl

theorem raiseAt_kindCounts (q : NoticeKind) :
    (raiseAt stamp k sub bank d s).notices.kindCounts[noticeCode q] =
      if q = k then min 65535 (s.notices.kindCounts[noticeCode q] + 1) else s.notices.kindCounts[noticeCode q] := by
  rw [raiseAt_notices, offer_eq, record_eq]
  exact count_kindCounts _ _ _

theorem raiseAt_queue_alert_overflow :
    ((raiseAt stamp k sub bank d s).notices.queue, (raiseAt stamp k sub bank d s).notices.alert,
        (raiseAt stamp k sub bank d s).notices.overflow) =
      if (faultPosition k).isSome ∨ k = .reset ∨ s.notices.mask.getLsbD (noticeCode k) = true then
        if s.notices.queue.length < 32 then (s.notices.queue ++ [noticeOf stamp k sub d s], true, s.notices.overflow)
        else (s.notices.queue, s.notices.alert, min 255 (s.notices.overflow + 1))
      else (s.notices.queue, s.notices.alert, s.notices.overflow) := by
  rw [raiseAt_notices, offer_queue_alert_overflow, record_eq]
  rfl

/-- What else a raise leaves as it was. -/
theorem raiseAt_notices_rest :
    { (raiseAt stamp k sub bank d s).notices with
      kindCounts := s.notices.kindCounts, summary := s.notices.summary, first := s.notices.first
      queue := s.notices.queue, alert := s.notices.alert, overflow := s.notices.overflow } = s.notices := by
  rw [raiseAt_notices, offer_eq, record_eq]
  rfl

theorem raiseAt_mask : (raiseAt stamp k sub bank d s).notices.mask = s.notices.mask := by
  rw [raiseAt_notices, offer_eq, record_eq]
  rfl

theorem raiseAt_dropCounts : (raiseAt stamp k sub bank d s).notices.dropCounts = s.notices.dropCounts := by
  rw [raiseAt_notices, offer_eq, record_eq]
  rfl

end Raise

/-- Settles O11: the three steps of R181, each with what it changes. -/
theorem raisedNoticeIsCountedRecordedAndQueued : Obligations.RaisedNoticeIsCountedRecordedAndQueued := by
  intro stamp k sub bank d s
  refine ⟨_, rfl, raiseAt_kindCounts stamp k sub bank d s, fun p => ?_, ?_,
    raiseAt_queue_alert_overflow stamp k sub bank d s, raiseAt_notices_rest stamp k sub bank d s⟩
  · show (raiseAt stamp k sub bank d s).notices.summary.getLsbD p = _
    rw [raiseAt_notices, offer_eq]
    exact record_summary _ _ p
  · show (raiseAt stamp k sub bank d s).notices.first = _
    rw [raiseAt_notices, offer_eq]
    exact record_first _ _

/-! ### Drops -/

/-- Two states in which the same notices leave the same record: they agree in the Notice Unit, in the tracker, whose
cycle number and angle a notice carries, and in the time. -/
structure SameNotes (s t : State) : Prop where
  notices : s.notices = t.notices
  tracker : s.tracker = t.tracker
  now : s.now = t.now

theorem SameNotes.refl (s : State) : SameNotes s s := ⟨rfl, rfl, rfl⟩

theorem SameNotes.raiseAt {s t : State} (h : SameNotes s t) (stamp : Time) (k : NoticeKind) (sub : Subject)
    (bank : Option Bank) (d : Half) : SameNotes (raiseAt stamp k sub bank d s) (Machine.raiseAt stamp k sub bank d t) where
  notices := by simp only [raiseAt_notices, faultOf, noticeOf, h.notices, h.tracker]
  tracker := h.tracker
  now := h.now

theorem SameNotes.raise {s t : State} (h : SameNotes s t) (k : NoticeKind) (sub : Subject) (bank : Option Bank)
    (d : Half) : SameNotes (raise k sub bank d s) (Machine.raise k sub bank d t) := by
  rw [Machine.raise, Machine.raise, h.now]
  exact h.raiseAt _ _ _ _ _

theorem SameNotes.countDrop {s t : State} (h : SameNotes s t) (q : DropReason) :
    SameNotes (countDrop q s) (Machine.countDrop q t) where
  notices := by simp only [Machine.countDrop, h.notices]
  tracker := h.tracker
  now := h.now

theorem SameNotes.noteDrop {s t : State} (h : SameNotes s t) (q : DropReason) (r : Request) :
    SameNotes (noteDrop q r s) (Machine.noteDrop q r t) := (h.countDrop q).raise _ _ _ _

theorem SameNotes.foldl {α : Type} {f g : State → α → State} {s t : State} (h : SameNotes s t) (l : List α)
    (step : ∀ s t a, SameNotes s t → SameNotes (f s a) (g t a)) : SameNotes (l.foldl f s) (l.foldl g t) := by
  induction l generalizing s t with
  | nil => exact h
  | cons a l ih => exact ih (step s t a h)

/-- A drop order notes each request it reaches, in queue order (R100). -/
theorem dropWhere_notices (q : DropReason) (reaches : Request → Bool) (s : State) :
    (dropWhere q reaches s).notices =
      ((s.queue.requests.filter reaches).foldl (fun v r => noteDrop q r v) s).notices :=
  ((SameNotes.refl s).foldl _ fun _ _ r h =>
    SameNotes.noteDrop (s := removeRequest r _) ⟨h.notices, h.tracker, h.now⟩ q r).notices

theorem dropNonDriving_notices (q : DropReason) (s : State) :
    (dropNonDriving q s).notices =
      ((s.queue.requests.filter (fun r => !driving r.state)).foldl (fun v r => noteDrop q r v) s).notices :=
  dropWhere_notices _ _ _

section Drops

variable (q : DropReason)

theorem noteDrop_dropCounts (r : Request) (s : State) (c : DropReason) :
    (noteDrop q r s).notices.dropCounts[reasonCode c] =
      if c = q then min 65535 (s.notices.dropCounts[reasonCode c] + 1) else s.notices.dropCounts[reasonCode c] := by
  have raised : (noteDrop q r s).notices.dropCounts = (countDrop q s).notices.dropCounts :=
    raiseAt_dropCounts _ _ _ _ _ _
  rw [raised, countDrop_counts]
  split
  next h => rw [h]; rfl
  next => rfl

/-- A row of drops raises its reason's counter by its length, to at most 65 535 (R185). -/
theorem noteDrops_dropCounts (rs : List Request) (s : State) (c : DropReason) :
    (rs.foldl (fun v r => noteDrop q r v) s).notices.dropCounts[reasonCode c] =
      if c = q ∧ rs ≠ [] then min 65535 (s.notices.dropCounts[reasonCode c] + rs.length)
      else s.notices.dropCounts[reasonCode c] := by
  induction rs generalizing s with
  | nil => simp
  | cons r rs ih =>
    rw [List.foldl_cons, ih, noteDrop_dropCounts]
    by_cases hc : c = q
    · by_cases hrs : rs = []
      · simp [hc, hrs]
      · simp only [hc, hrs, ne_eq, not_false_eq_true, and_self, if_true, reduceCtorEq, List.length_cons]
        omega
    · simp [hc]

theorem noteDrops_kindCounts (rs : List Request) (s : State) (k : NoticeKind) :
    (rs.foldl (fun v r => noteDrop q r v) s).notices.kindCounts[noticeCode k] =
      if k = .pulseDropped ∧ rs ≠ [] then min 65535 (s.notices.kindCounts[noticeCode k] + rs.length)
      else s.notices.kindCounts[noticeCode k] := by
  induction rs generalizing s with
  | nil => simp
  | cons r rs ih =>
    have one : (noteDrop q r s).notices.kindCounts[noticeCode k] =
        if k = .pulseDropped then min 65535 (s.notices.kindCounts[noticeCode k] + 1)
        else s.notices.kindCounts[noticeCode k] := raiseAt_kindCounts _ _ _ _ _ (countDrop q s) k
    rw [List.foldl_cons, ih, one]
    by_cases hk : k = .pulseDropped
    · by_cases hrs : rs = []
      · simp [hk, hrs]
      · simp only [hk, hrs, ne_eq, not_false_eq_true, and_self, if_true, reduceCtorEq, List.length_cons]
        omega
    · simp [hk]

/-- The notice of a drop (R205). -/
def dropNotice (s : State) (r : Request) : Notice :=
  noticeOf s.now .pulseDropped (.cylinder r.cylinder) (droppedDetail q r.kind r.cycle) s

theorem noteDrop_mask (r : Request) (s : State) : (noteDrop q r s).notices.mask = s.notices.mask :=
  raiseAt_mask _ _ _ _ _ (countDrop q s)

theorem noteDrop_queue_of_masked (r : Request) {s : State} (masked : s.notices.mask.getLsbD 10 = false) :
    (noteDrop q r s).notices.queue = s.notices.queue ∧ (noteDrop q r s).notices.overflow = s.notices.overflow := by
  have h := raiseAt_queue_alert_overflow s.now .pulseDropped (.cylinder r.cylinder) none
    (droppedDetail q r.kind r.cycle) (countDrop q s)
  have unmasked : (countDrop q s).notices.mask.getLsbD (noticeCode .pulseDropped) = false := masked
  rw [if_neg (by simp [faultPosition, unmasked, -BitVec.getLsbD_eq_getElem])] at h
  exact ⟨congrArg (·.1) h, congrArg (·.2.2) h⟩

theorem noteDrop_queue_of_reported (r : Request) {s : State} (reported : s.notices.mask.getLsbD 10 = true)
    (room : s.notices.queue.length < 32) :
    (noteDrop q r s).notices.queue = s.notices.queue ++ [dropNotice q s r] ∧
      (noteDrop q r s).notices.overflow = s.notices.overflow := by
  have h := raiseAt_queue_alert_overflow s.now .pulseDropped (.cylinder r.cylinder) none
    (droppedDetail q r.kind r.cycle) (countDrop q s)
  rw [if_pos (.inr (.inr reported)), if_pos (by exact room)] at h
  exact ⟨congrArg (·.1) h, congrArg (·.2.2) h⟩

theorem noteDrops_queue_of_masked (rs : List Request) {s : State} (masked : s.notices.mask.getLsbD 10 = false) :
    (rs.foldl (fun v r => noteDrop q r v) s).notices.queue = s.notices.queue ∧
      (rs.foldl (fun v r => noteDrop q r v) s).notices.overflow = s.notices.overflow := by
  induction rs generalizing s with
  | nil => exact ⟨rfl, rfl⟩
  | cons r rs ih =>
    obtain ⟨queue, overflow⟩ := ih (s := noteDrop q r s) (by rw [noteDrop_mask, masked])
    obtain ⟨queue', overflow'⟩ := noteDrop_queue_of_masked q r masked
    exact ⟨queue.trans queue', overflow.trans overflow'⟩

theorem noteDrops_queue_of_reported (rs : List Request) {s : State} (reported : s.notices.mask.getLsbD 10 = true)
    (room : s.notices.queue.length + rs.length ≤ 32) :
    (rs.foldl (fun v r => noteDrop q r v) s).notices.queue = s.notices.queue ++ rs.map (dropNotice q s) ∧
      (rs.foldl (fun v r => noteDrop q r v) s).notices.overflow = s.notices.overflow := by
  induction rs generalizing s with
  | nil => exact ⟨by simp, rfl⟩
  | cons r rs ih =>
    rw [List.length_cons] at room
    obtain ⟨queue', overflow'⟩ := noteDrop_queue_of_reported q r reported (by omega)
    obtain ⟨queue, overflow⟩ := ih (s := noteDrop q r s) (by rw [noteDrop_mask, reported]) (by
      rw [queue', List.length_append, List.length_singleton]
      omega)
    refine ⟨?_, overflow.trans overflow'⟩
    rw [List.foldl_cons, queue, queue', List.map_cons, List.append_assoc]
    rfl

theorem noteDrops_fault (rs : List Request) (s : State) :
    (rs.foldl (fun v r => noteDrop q r v) s).notices.summary = s.notices.summary ∧
      (rs.foldl (fun v r => noteDrop q r v) s).notices.first = s.notices.first := by
  induction rs generalizing s with
  | nil => exact ⟨rfl, rfl⟩
  | cons r rs ih =>
    obtain ⟨summary, first⟩ := ih (noteDrop q r s)
    obtain ⟨summary', first'⟩ := raiseAt_report s.now .pulseDropped (.cylinder r.cylinder) none
      (droppedDetail q r.kind r.cycle) (countDrop q s) rfl
    exact ⟨summary.trans summary', first.trans first'⟩

end Drops

/-! ### The derived state -/

/-- The rows of the table in their order (R156). -/
theorem derivedState_eq (f : Fueling) :
    derivedState f =
      if f.armed = false then .disarmed
      else if f.hostCut || f.overspeed || f.expired || f.clockCut || (decide (f.lastSync = .camOnly) && !f.limpOn) then .cut
      else if f.lastSync = .stopped ∨ f.lastSync = .seeking ∨ f.lastSync = .crankSync then .syncWait
      else if f.lastSync = .camOnly then .limp
      else if f.lastAge ≥ f.holdLimit then .aged
      else .normal := by
  have waits : syncWaits f.lastSync = true ↔ f.lastSync = .stopped ∨ f.lastSync = .seeking ∨ f.lastSync = .crankSync := by
    cases f.lastSync <;> simp [syncWaits]
  simp only [derivedState, Bool.not_eq_true', waits]
  rfl

/-- Settles O22: the derivation takes the state its table gives; a drop order is a row of noted drops. -/
theorem fuelingStateIsTheFirstMatchingRow : Obligations.FuelingStateIsTheFirstMatchingRow := by
  refine ⟨fun cause s => ?_, fun reason s => ⟨fun r => rfl, ?_, noteDrops_dropCounts reason _ s,
    noteDrops_kindCounts reason _ s, noteDrops_queue_of_masked reason _, fun reported room => ?_, noteDrops_fault reason _ s⟩⟩
  · have injects : ∀ x : FuelState, injecting x = (x == .normal || x == .aged || x == .limp) := fun x => by
      cases x <;> rfl
    simp only [deriveFueling, derivedState_eq, injects]
    rfl
  · rw [← dropNonDriving_notices]
    exact dropNonDriving_frame reason s
  · exact (noteDrops_queue_of_reported reason _ reported room).symm

/-- Settles O23: each hand-over stores its value, and the judgment of the age is the one of R153. -/
theorem handedValuesAreStoredJudgedAndDerived : Obligations.HandedValuesAreStoredJudgedAndDerived := fun _ =>
  ⟨rfl, rfl, congrArg (deriveFueling .age) (judgeExpired_eq _)⟩

end Sys2Proof.Machine

/-! PROOFS. The Drive Arbiter's choice: the tie-break tree by its three levels (R115 to R117), and the auction that grants
what class, tree and queue order choose (R111 to R121). -/

namespace Sys2Proof.Machine

open Sys2Proof.Safety

/-! ### The tree by its levels -/

/-- The firing position of a half of the ring, a pair of that half and a member of that pair. -/
def positionAt (half pair member : Bool) : Position :=
  match half, pair, member with
  | false, false, false => 0
  | false, false, true => 1
  | false, true, false => 2
  | false, true, true => 3
  | true, false, false => 4
  | true, false, true => 5
  | true, true, false => 6
  | true, true, true => 7

/-- The middle switch of a half. -/
def Tree.mid (t : Tree) (half : Bool) : Bool := if half then t.midHigh else t.midLow

/-- The low switch of a pair. -/
def Tree.low (t : Tree) (half pair : Bool) : Bool :=
  if half then (if pair then t.low67 else t.low45) else (if pair then t.low23 else t.low01)

/-- A pair holds a candidate. -/
def pairHolds (holds : Position → Bool) (half pair : Bool) : Bool :=
  holds (positionAt half pair false) || holds (positionAt half pair true)

/-- A half holds a candidate. -/
def halfHolds (holds : Position → Bool) (half : Bool) : Bool := pairHolds holds half false || pairHolds holds half true

/-- One switch of the walk, over its two children. -/
def choose (switch : Bool) (child : Bool → Bool) : Bool := walkSwitch switch (child false) (child true)

theorem positionAt_surj (p : Position) : ∃ half pair member, p = positionAt half pair member := by
  revert p; decide

theorem positionAt_half (h k m n l j : Bool) :
    (positionAt h m l).val / 4 = (positionAt k n j).val / 4 ↔ h = k := by
  revert h k m n l j; decide

theorem positionAt_pair (h k m n l j : Bool) :
    (positionAt h m l).val / 2 = (positionAt k n j).val / 2 ↔ h = k ∧ m = n := by
  revert h k m n l j; decide

theorem positionAt_inj (h k m n l j : Bool) : positionAt h m l = positionAt k n j ↔ h = k ∧ m = n ∧ l = j := by
  revert h k m n l j; decide

/-- A walk takes one child at each of the three levels (R116). -/
theorem walk_eq (t : Tree) (holds : Position → Bool) :
    t.walk holds =
      let half := choose t.root (halfHolds holds)
      let pair := choose (t.mid half) (pairHolds holds half)
      positionAt half pair (choose (t.low half pair) (fun member => holds (positionAt half pair member))) := by
  have four : ∀ a b c d : Bool, (a || b || c || d) = ((a || b) || (c || d)) := by decide
  simp only [Tree.walk, four]
  show (if choose t.root (halfHolds holds) = true then
      if choose t.midHigh (pairHolds holds true) = true then
        if choose t.low67 (fun l => holds (positionAt true true l)) = true then 7 else 6
      else if choose t.low45 (fun l => holds (positionAt true false l)) = true then 5 else 4
    else
      if choose t.midLow (pairHolds holds false) = true then
        if choose t.low23 (fun l => holds (positionAt false true l)) = true then 3 else 2
      else if choose t.low01 (fun l => holds (positionAt false false l)) = true then 1 else 0) = _
  cases choose t.root (halfHolds holds)
  case false =>
    simp only [Tree.mid, Bool.false_eq_true, if_false]
    cases choose t.midLow (pairHolds holds false) <;>
      simp only [Tree.low, Bool.false_eq_true, if_false, if_true] <;> split <;> simp_all [positionAt]
  case true =>
    simp only [Tree.mid, if_true]
    cases choose t.midHigh (pairHolds holds true) <;>
      simp only [Tree.low, Bool.false_eq_true, if_false, if_true] <;> split <;> simp_all [positionAt]

/-- A grant turns the three switches on its path away from it (R117). -/
theorem served_eq (t : Tree) (half pair member : Bool) :
    (t.served (positionAt half pair member)).root = !half ∧
      (t.served (positionAt half pair member)).mid half = !pair ∧
      (t.served (positionAt half pair member)).low half pair = !member := by
  cases half <;> cases pair <;> cases member <;> exact ⟨rfl, rfl, rfl⟩

/-- The other switches keep their direction (R117). -/
theorem served_other (t : Tree) {half pair half' pair' : Bool} (member : Bool) :
    (half' ≠ half → (t.served (positionAt half pair member)).mid half' = t.mid half') ∧
      ((half', pair') ≠ (half, pair) → (t.served (positionAt half pair member)).low half' pair' = t.low half' pair') := by
  cases half <;> cases pair <;> cases member <;> cases half' <;> cases pair' <;> simp [Tree.served, positionAt, Tree.mid, Tree.low]

/-! ### One switch -/

/-- The child chosen holds a candidate when either does. -/
theorem choose_holds {switch : Bool} {child : Bool → Bool} {b : Bool} (h : child b = true) :
    child (choose switch child) = true := by
  unfold choose walkSwitch
  cases b <;> cases switch <;> cases hf : child false <;> cases ht : child true <;> simp_all

/-- A child that holds a candidate is passed over only where the switch points at the other, which holds one too. -/
theorem choose_other {switch : Bool} {child : Bool → Bool} {b : Bool} (h : child b = true) (hne : choose switch child ≠ b) :
    switch = !b ∧ child (!b) = true := by
  unfold choose walkSwitch at hne
  cases b <;> cases switch <;> cases hf : child false <;> cases ht : child true <;> simp_all

theorem choose_of_points {child : Bool → Bool} {b : Bool} (h : child b = true) : choose b child = b := by
  cases b <;> simp [choose, walkSwitch, h]

theorem pairHolds_of_holds {holds : Position → Bool} {half pair member : Bool}
    (h : holds (positionAt half pair member) = true) : pairHolds holds half pair = true := by
  cases member <;> simp [pairHolds, h]

theorem halfHolds_of_pairHolds {holds : Position → Bool} {half pair : Bool} (h : pairHolds holds half pair = true) :
    halfHolds holds half = true := by
  cases pair <;> simp [halfHolds, h]

theorem exists_of_pairHolds {holds : Position → Bool} {half pair : Bool} (h : pairHolds holds half pair = true) :
    ∃ member, holds (positionAt half pair member) = true := by
  rcases Bool.or_eq_true_iff.mp h with h | h <;> exact ⟨_, h⟩

/-! ### Every held position is served -/

/-- A walk with a position held ends at a position that is held (R116). -/
theorem holds_walk {t : Tree} {holds : Position → Bool} {q : Position} (hq : holds q = true) : holds (t.walk holds) = true := by
  obtain ⟨half, pair, member, rfl⟩ := positionAt_surj q
  have byHalf := choose_holds (switch := t.root) (halfHolds_of_pairHolds (pairHolds_of_holds hq))
  obtain ⟨pair', byPair⟩ : ∃ m, pairHolds holds (choose t.root (halfHolds holds)) m = true :=
    (Bool.or_eq_true_iff.mp byHalf).elim (⟨_, ·⟩) (⟨_, ·⟩)
  obtain ⟨member', byMember⟩ := exists_of_pairHolds
    (choose_holds (switch := t.mid (choose t.root (halfHolds holds))) byPair)
  rw [walk_eq]
  exact choose_holds (child := fun l => holds (positionAt _ _ l)) byMember

/-- How many grants can come before a position's own: one for a root that points at the other half, two for a middle
switch that points at the other pair, four for a low switch that points at the other member, where that other holds a
candidate. -/
def grantsBefore (t : Tree) (holds : Position → Bool) (half pair member : Bool) : Nat :=
  bit (t.root == !half && halfHolds holds !half) + 2 * bit (t.mid half == !pair && pairHolds holds half !pair) +
    4 * bit (t.low half pair == !member && holds (positionAt half pair !member))

theorem bit_le_one (b : Bool) : bit b ≤ 1 := by cases b <;> decide

/-- Each grant to another position takes the number down: on the level where the two part, the switch was pointing away
and now points back; the levels above may turn away, and count for less. -/
theorem grantsBefore_served {t : Tree} {holds : Position → Bool} {half pair member : Bool}
    (held : holds (positionAt half pair member) = true) (other : t.walk holds ≠ positionAt half pair member) :
    grantsBefore (t.served (t.walk holds)) holds half pair member < grantsBefore t holds half pair member := by
  obtain ⟨h, m, l, hwalk⟩ : ∃ h m l, h = choose t.root (halfHolds holds) ∧ m = choose (t.mid h) (pairHolds holds h) ∧
    l = choose (t.low h m) (fun l => holds (positionAt h m l)) := ⟨_, _, _, rfl, rfl, rfl⟩
  obtain ⟨byRoot, byMid, byLow⟩ := hwalk
  have walk : t.walk holds = positionAt h m l := by rw [walk_eq, byLow, byMid, byRoot]
  rw [walk] at other ⊢
  have pairHeld := pairHolds_of_holds held
  obtain ⟨root, mid, low⟩ := served_eq t h m l
  unfold grantsBefore
  by_cases hh : h = half
  · subst hh
    by_cases hm : m = pair
    · subst hm
      have hl : l ≠ member := fun hl => other (by rw [hl])
      obtain ⟨away, both⟩ := choose_other (child := fun l => holds (positionAt h m l)) held (byLow ▸ hl)
      have back : l = !member := by cases l <;> cases member <;> simp_all
      have now : bit ((t.served (positionAt h m l)).low h m == !member && holds (positionAt h m !member)) = 0 := by
        rw [low, back]; cases member <;> rfl
      have before : bit (t.low h m == !member && holds (positionAt h m !member)) = 1 := by
        rw [away, both]; cases member <;> rfl
      rw [now, before]
      have := bit_le_one ((t.served (positionAt h m l)).root == !h && halfHolds holds !h)
      have := bit_le_one ((t.served (positionAt h m l)).mid h == !m && pairHolds holds h !m)
      omega
    · obtain ⟨away, both⟩ := choose_other pairHeld (byMid ▸ hm)
      have back : m = !pair := by cases m <;> cases pair <;> simp_all
      have now : bit ((t.served (positionAt h m l)).mid h == !pair && pairHolds holds h !pair) = 0 := by
        rw [mid, back]; cases pair <;> rfl
      have before : bit (t.mid h == !pair && pairHolds holds h !pair) = 1 := by
        rw [away, both]; cases pair <;> rfl
      have kept := (served_other t (half := h) (pair := m) (half' := h) (pair' := pair) l).2 (by simp [Ne.symm hm])
      rw [now, before, kept]
      have := bit_le_one ((t.served (positionAt h m l)).root == !h && halfHolds holds !h)
      omega
  · obtain ⟨away, both⟩ := choose_other (halfHolds_of_pairHolds pairHeld) (byRoot ▸ hh)
    have back : h = !half := by cases h <;> cases half <;> simp_all
    have now : bit ((t.served (positionAt h m l)).root == !half && halfHolds holds !half) = 0 := by
      rw [root, back]; cases half <;> rfl
    have before : bit (t.root == !half && halfHolds holds !half) = 1 := by
      rw [away, both]; cases half <;> rfl
    have kept := served_other t (half := h) (pair := m) (half' := half) (pair' := pair) l
    rw [now, before, kept.1 (Ne.symm hh), kept.2 (by simp [Ne.symm hh])]
    omega

/-- A position held while the same positions hold candidates is served within as many grants as can come before it. -/
theorem served_within (n : Nat) {t : Tree} {holds : Position → Bool} {half pair member : Bool}
    (held : holds (positionAt half pair member) = true) (bound : grantsBefore t holds half pair member ≤ n) :
    ∃ k ≤ n, (((fun u : Tree => u.served (u.walk holds))^[k]) t).walk holds = positionAt half pair member := by
  induction n generalizing t with
  | zero =>
    by_cases other : t.walk holds = positionAt half pair member
    · exact ⟨0, le_rfl, other⟩
    · have := grantsBefore_served held other
      omega
  | succ n ih =>
    by_cases other : t.walk holds = positionAt half pair member
    · exact ⟨0, Nat.zero_le _, other⟩
    · have fewer := grantsBefore_served held other
      obtain ⟨k, hk, served⟩ := ih (t := t.served (t.walk holds)) (by omega)
      exact ⟨k + 1, by omega, served⟩

theorem grantsBefore_le (t : Tree) (holds : Position → Bool) (half pair member : Bool) :
    grantsBefore t holds half pair member ≤ 7 := by
  have := bit_le_one (t.root == !half && halfHolds holds !half)
  have := bit_le_one (t.mid half == !pair && pairHolds holds half !pair)
  have := bit_le_one (t.low half pair == !member && holds (positionAt half pair !member))
  unfold grantsBefore
  omega

/-- Settles O25: after a grant each switch of the path points at the other child, which is chosen while it holds a
candidate; and no position waits for more than seven grants (`grantsBefore_served`). -/
theorem treeFindsACandidateAndSharesTheBank : Obligations.TreeFindsACandidateAndSharesTheBank := by
  refine ⟨fun t holds p => ⟨fun ⟨q, hq⟩ => holds_walk hq, ?half, ?pair, ?member⟩, fun t holds p hp => ?starved⟩
  case half =>
    intro q hq apart
    obtain ⟨h, m, l, rfl⟩ := positionAt_surj p
    obtain ⟨h', m', l', rfl⟩ := positionAt_surj q
    rw [ne_eq, positionAt_half] at apart
    have back : h' = !h := by cases h <;> cases h' <;> simp_all
    have held := halfHolds_of_pairHolds (pairHolds_of_holds hq)
    rw [walk_eq, ne_eq, positionAt_half, (served_eq t h m l).1, ← back, choose_of_points held]
    exact apart
  case pair =>
    intro q hq together apart
    obtain ⟨h, m, l, rfl⟩ := positionAt_surj p
    obtain ⟨h', m', l', rfl⟩ := positionAt_surj q
    rw [positionAt_half] at together
    subst together
    rw [ne_eq, positionAt_pair] at apart
    have back : m' = !m := by cases m <;> cases m' <;> simp_all
    rw [walk_eq, ne_eq, positionAt_pair]
    rintro ⟨half, pair⟩
    rw [half, (served_eq t h' m l).2.1, ← back, choose_of_points (pairHolds_of_holds hq)] at pair
    exact apart ⟨rfl, pair⟩
  case member =>
    intro q hq apart together
    obtain ⟨h, m, l, rfl⟩ := positionAt_surj p
    obtain ⟨h', m', l', rfl⟩ := positionAt_surj q
    rw [positionAt_pair] at together
    obtain ⟨rfl, rfl⟩ := together
    rw [ne_eq, positionAt_inj] at apart
    have back : l' = !l := by cases l <;> cases l' <;> simp_all
    rw [walk_eq, ne_eq, positionAt_inj]
    rintro ⟨half, pair, member⟩
    rw [half] at pair member
    rw [pair, (served_eq t h' m' l).2.2, ← back, choose_of_points (child := fun l => holds (positionAt h' m' l)) hq] at member
    exact apart ⟨rfl, rfl, member⟩
  case starved =>
    obtain ⟨h, m, l, rfl⟩ := positionAt_surj p
    obtain ⟨n, hn, served⟩ := served_within 7 hp (grantsBefore_le t holds h m l)
    exact ⟨n, by omega, served⟩

end Sys2Proof.Machine

/-! PROOFS. The Drive Arbiter's events: candidates, auctions and grants (R111 to R121), RELEASE_BANK, the recharge, the
separation and the lateness (R109, R112, R120, R125). -/

namespace Sys2Proof.Machine

open Sys2Proof.Safety

/-! ### Candidates -/

theorem driving_eq_false_iff {st : RequestState} : driving st = false ↔ st ≠ .boost ∧ st ≠ .hold := by
  cases st <;> simp [driving]

theorem injecting_iff {f : FuelState} : injecting f = true ↔ f = .normal ∨ f = .aged ∨ f = .limp := by
  cases f <;> simp [injecting]

theorem occupant_isNone_iff {x : Bank} {s : State} :
    (occupant x s).isNone = true ↔ ∀ o ∈ s.queue.requests, o.bank = x → o.state ≠ .boost ∧ o.state ≠ .hold := by
  simp only [Option.isNone_iff_eq_none, occupant, List.find?_eq_none, Bool.and_eq_true, beq_iff_eq, not_and,
    Bool.not_eq_true, driving_eq_false_iff]

theorem cylDriving_eq_false_iff {c : Cylinder} {s : State} :
    cylDriving c s = false ↔ ∀ o ∈ s.queue.requests, o.cylinder = c → o.state ≠ .boost ∧ o.state ≠ .hold := by
  simp only [cylDriving, List.any_eq_false, Bool.and_eq_true, beq_iff_eq, not_and, Bool.not_eq_true, driving_eq_false_iff]

theorem separated_iff {c : Cylinder} {s : State} :
    separated c s = true ↔ ∀ t, (s.cyl c).lastEnd = some t →
      (s.control.timebase - (t + BitVec.ofNat 32 s.queue.limits.minSeparation)).toNat < 2 ^ 31 := by
  unfold separated separatedUnder
  cases (s.cyl c).lastEnd with
  | none => simp
  | some t => simp only [reached_iff, later, State.now, Option.some.injEq, forall_eq']

theorem bankOpen_iff {x : Bank} {s : State} :
    bankOpen x s = true ↔ (s.drive x).locked = false ∧
      (∀ o ∈ s.queue.requests, o.bank = x → o.state ≠ .boost ∧ o.state ≠ .hold) ∧ (s.drive x).charge = .ready ∧
      (s.fueling.state = .normal ∨ s.fueling.state = .aged ∨ s.fueling.state = .limp) := by
  simp only [bankOpen, Bool.and_eq_true, Bool.not_eq_true', occupant_isNone_iff, beq_iff_eq, injecting_iff, and_assoc]

theorem cylFree_iff {c : Cylinder} {s : State} : cylFree c s = true ↔ cylDriving c s = false ∧ separated c s = true := by
  simp only [cylFree, Bool.and_eq_true, Bool.not_eq_true']

theorem mem_candidates_iff {x : Bank} {r : Request} {s : State} :
    r ∈ candidates x s ↔ bankOpen x s = true ∧ r ∈ waiting x s ∧ cylFree r.cylinder s = true := by
  refine ⟨mem_candidates, fun ⟨isOpen, waits, free⟩ => ?_⟩
  rw [candidates, if_pos isOpen]
  exact List.mem_filter.mpr ⟨waits, free⟩

/-! ### The choice of an auction (R114) -/

theorem mem_lowestClass {r : Request} {rs : List Request} :
    r ∈ lowestClass rs ↔ r ∈ rs ∧ ∀ c ∈ rs, kindClass r.kind ≤ kindClass c.kind := by
  simp [lowestClass, List.mem_filter]

theorem exists_lowestClass {rs : List Request} (h : rs ≠ []) : ∃ r, r ∈ lowestClass rs := by
  obtain ⟨r, hr, least⟩ := rs.toFinset.exists_min_image (fun r => kindClass r.kind) (List.toFinset_nonempty_iff rs |>.mpr h)
  exact ⟨r, mem_lowestClass.mpr ⟨List.mem_toFinset.mp hr, fun c hc => least c (List.mem_toFinset.mpr hc)⟩⟩

/-- The position the tree walk chooses among requests. -/
def walkAmong (t : Tree) (rs : List Request) : Position := t.walk (fun p => rs.any (fun r => r.position == p))

theorem exists_at_walkAmong (t : Tree) {r : Request} {rs : List Request} (h : r ∈ rs) :
    ∃ c ∈ rs, c.position = walkAmong t rs := by
  have held := holds_walk (t := t) (holds := fun p => rs.any (fun r => r.position == p)) (q := r.position)
    (List.any_eq_true.mpr ⟨r, h, beq_self_eq_true _⟩)
  obtain ⟨c, hc, at_⟩ := List.any_eq_true.mp held
  exact ⟨c, hc, beq_iff_eq.mp at_⟩

/-- With one request left, the walk ends at its position; so the choice is always the first that stands where the walk
ends. -/
theorem chooseAmong_eq (t : Tree) (rs : List Request) :
    chooseAmong t rs = (lowestClass rs).find? (fun r => r.position == walkAmong t (lowestClass rs)) := by
  unfold chooseAmong
  split
  next h => rw [h]; rfl
  next r h =>
    obtain ⟨c, hc, at_⟩ := exists_at_walkAmong t (rs := [r]) (List.mem_singleton_self r)
    rw [List.mem_singleton.mp hc] at at_
    rw [h, List.find?_cons, ← at_, beq_self_eq_true]
  next => rfl

/-- What is chosen among candidates: a request of the lowest class, at the position the walk chooses, and the first such
in queue order (R114). -/
theorem chooseAmong_some (t : Tree) {rs : List Request} (h : rs ≠ []) :
    ∃ r before after, chooseAmong t rs = some r ∧ rs = before ++ r :: after ∧
      (∀ c ∈ rs, kindClass r.kind ≤ kindClass c.kind) ∧
      (∀ c ∈ before, ¬ (kindClass c.kind = kindClass r.kind ∧ c.position = r.position)) ∧
      r.position = t.walk (fun p => rs.any (fun c => kindClass c.kind == kindClass r.kind && c.position == p)) := by
  obtain ⟨k, hk⟩ := exists_lowestClass h
  obtain ⟨c, hc, at_⟩ := exists_at_walkAmong t hk
  cases chosen : chooseAmong t rs with
  | none =>
    rw [chooseAmong_eq, List.find?_eq_none] at chosen
    exact absurd (beq_iff_eq.mpr at_) (chosen c hc)
  | some r =>
    rw [chooseAmong_eq] at chosen
    have place := List.find?_some chosen
    have least := (mem_lowestClass.mp (List.mem_of_find?_eq_some chosen)).2
    rw [beq_iff_eq] at place
    rw [lowestClass, List.find?_filter, List.find?_eq_some_iff_append] at chosen
    obtain ⟨-, before, after, rfl, first⟩ := chosen
    have sameClass : ∀ c ∈ before ++ r :: after, kindClass c.kind = kindClass r.kind → c ∈ lowestClass (before ++ r :: after) :=
      fun c hc same => mem_lowestClass.mpr ⟨hc, fun x hx => same ▸ least x hx⟩
    refine ⟨r, before, after, rfl, rfl, least, fun c hc ⟨same, at_⟩ => ?_, ?_⟩
    · have low := (List.mem_filter.mp (sameClass c (List.mem_append_left _ hc) same)).2
      have := first c hc
      rw [low, at_, place] at this
      simp [lowestClass] at this
    · rw [place, walkAmong]
      congr 1
      funext p
      rw [Bool.eq_iff_iff]
      simp only [List.any_eq_true, Bool.and_eq_true, beq_iff_eq]
      constructor
      · rintro ⟨c, hc, at_⟩
        obtain ⟨hc, low⟩ := mem_lowestClass.mp hc
        exact ⟨c, hc, le_antisymm (low r (by simp)) (least c hc), at_⟩
      · rintro ⟨c, hc, same, at_⟩
        exact ⟨c, sameClass c hc same, at_⟩

theorem auction_of_unlocked {x : Bank} {s : State} (h : (s.drive x).locked = false) :
    auction x s = match chooseAmong ((judgeTruncation x s).drive x).tree (candidates x (judgeTruncation x s)) with
      | none => judgeTruncation x s
      | some r => grant x r (judgeTruncation x s) :=
  if_neg (by simp [h])

theorem moveRequest_of_mem {old : Request} (new : Request) {s : State} (h : old ∈ s.queue.requests) :
    moveRequest old new s = s.setRequests (insertRequest new (s.queue.requests.erase old)) := if_pos h

/-- Settles O26: the candidates' conditions one by one; the choice by class, tree and queue order; the grant field by
field. -/
theorem auctionGrantsTheChosenCandidate : Obligations.AuctionGrantsTheChosenCandidate := by
  refine ⟨fun x r s => ?candidates, fun x s => ⟨fun locked => if_pos locked, fun unlocked => ⟨fun none => ?none,
    fun some => ?some⟩⟩, fun x r s hr => ?grant⟩
  case candidates =>
    rw [mem_candidates_iff, bankOpen_iff, mem_waiting, cylFree_iff, cylDriving_eq_false_iff, separated_iff, Option.isSome_iff_ne_none]
    constructor
    · rintro ⟨⟨unlocked, empty, ready, injects⟩, ⟨hr, bank, due, waits⟩, free, apart⟩
      exact ⟨hr, bank, due, waits, unlocked, ready, empty, injects, free, apart⟩
    · rintro ⟨hr, bank, due, waits, unlocked, ready, empty, injects, free, apart⟩
      exact ⟨⟨unlocked, empty, ready, injects⟩, ⟨hr, bank, due, waits⟩, free, apart⟩
  case none =>
    rw [auction_of_unlocked unlocked, none, chooseAmong_nil]
  case some =>
    obtain ⟨r, before, after, chosen, split, rest⟩ := chooseAmong_some ((judgeTruncation x s).drive x).tree some
    refine ⟨r, before, after, split, ?_, rest⟩
    rw [auction_of_unlocked unlocked, chosen]
  case grant =>
    rw [grant, moveRequest_of_mem _ hr]
    cases x <;> rfl

/-! ### Truncation (R121) -/

theorem truncates_iff {x : Bank} {o : Request} {s : State} :
    truncates x o s = true ↔ o.state = .hold ∧ (o.kind = .after ∨ o.kind = .post) ∧
      ∃ m ∈ waiting x s, m.kind = .main ∧ m.cylinder ≠ o.cylinder := by
  have late : 3 ≤ kindClass o.kind ↔ o.kind = .after ∨ o.kind = .post := by cases o.kind <;> simp [kindClass]
  simp only [truncates, Bool.and_eq_true, beq_iff_eq, decide_eq_true_eq, late, List.any_eq_true, bne_iff_ne, and_assoc]

/-- Settles O27: the judgment asks for its three conditions, and the end is the one every pulse has. -/
theorem waitingMainTruncatesAfterOrPostInHold : Obligations.WaitingMainTruncatesAfterOrPostInHold := by
  intro x o p s ho hp
  rw [judgeTruncation, ho]
  dsimp only
  by_cases h : truncates x o s = true
  · rw [if_pos h, if_pos (truncates_iff.mp h), outputsOff_eq, delivered, hp]
    rfl
  · rw [if_neg h, if_neg (fun g => h (truncates_iff.mpr g))]

/-! ### Releases, the recharge and the separation -/

theorem ownReleaseBank_of_bank {b : Byte} {x : Bank} (s : State) (hx : bankOfCode b.toNat = some x) :
    ownReleaseBank [b] s =
      if s.shortLevel x then refuse s .conditionPresent []
      else if (s.drive x).locked = false then refuse s .notLocked []
      else answerOk (auction x (s.setDrive x { s.drive x with locked := false })) [] := by
  have byte : u8 [b] 0 = b.toNat := rfl
  simp only [ownReleaseBank, withLength, List.length_singleton, if_true, byte, hx, Bool.not_eq_true']

theorem exec_releaseBank_of_bank {tag b : Byte} {x : Bank} {s : State} (running : s.running = true)
    (hx : bankOfCode b.toNat = some x) :
    exec (.releaseBank tag [b]) s = .next (
      if s.shortLevel x then answered s .conditionPresent tag []
      else if (s.drive x).locked = false then answered s .notLocked tag []
      else answered (auction x (s.setDrive x { s.drive x with locked := false })) .ok tag []) := by
  have own := ownReleaseBank_of_bank s hx
  split
  next h => rw [if_pos h] at own; exact exec_of_answer rfl running own
  next h =>
    rw [if_neg h] at own
    split
    next g => rw [if_pos g] at own; exact exec_of_answer rfl running own
    next g => rw [if_neg g] at own; exact exec_of_owner rfl running own

theorem recharged_of_reached {x : Bank} {t : Time} {s : State} (charge : (s.drive x).charge = .charging (some t))
    (out : reached t s.now = true) : recharged x s = auction x (s.setDrive x { s.drive x with charge := .ready }) := by
  unfold recharged
  rw [charge]
  exact if_pos out

theorem auctionFor_eq (c : Cylinder) (x : Bank) (s : State) :
    auctionFor c x s = if ∃ r ∈ waiting x s, r.cylinder = c then auction x s else s := by
  simp only [auctionFor, List.any_eq_true, beq_iff_eq]

/-- Settles O28: the bank's code decides what RELEASE_BANK judges; the two timers run their auctions once reached. -/
theorem releaseRechargeAndSeparationAuction : Obligations.ReleaseRechargeAndSeparationAuction := by
  refine ⟨fun tag b s running => ?release, fun x t s running charge out => ?recharge, fun c t s running last out => ?separation⟩
  case release =>
    by_cases ha : b = 0
    · subst ha
      exact exec_releaseBank_of_bank (x := .a) running rfl
    · by_cases hb : b = 1
      · subst hb
        exact exec_releaseBank_of_bank (x := .b) running rfl
      · rw [if_neg ha, if_neg hb]
        refine exec_of_answer rfl running (reply := []) (st := .badValue) (c := .releaseBank) (p := [b]) ?_
        have byte : u8 [b] 0 = b.toNat := rfl
        simp only [owner, ownReleaseBank, withLength, List.length_singleton, if_true, byte, bankOfCode_eq_none ha hb]
        rfl
  case recharge =>
    show Host.Outcome.next (if s.running then recharged x s else s) = _
    rw [if_pos running, recharged_of_reached charge (reached_iff.mpr out)]
  case separation =>
    have reached : separated c s = true := separated_iff.mpr fun e he => by
      rw [last] at he
      cases he
      exact out
    show Host.Outcome.next (if s.running then separationElapses c s else s) = _
    rw [if_pos running, separationElapses, if_pos reached, auctionFor_eq, auctionFor_eq]

/-! ### Lateness and the last end -/

theorem findRequest_eq (id : RequestId) (s : State) :
    findRequest id s =
      s.queue.requests.find? (fun r => decide (r.cylinder = id.cylinder ∧ r.kind = id.kind ∧ r.cycle = id.cycle)) := by
  unfold findRequest
  congr 1
  funext r
  rw [Bool.eq_iff_iff, beq_iff_eq, decide_eq_true_eq]
  cases id
  simp [Request.id]

theorem lateness_of_found {id : RequestId} {r : Request} {s : State} (found : findRequest id s = some r) :
    lateness id s = match r.lateExpiry with
      | some t =>
        if r.state = .due ∧ (s.control.timebase - t).toNat < 2 ^ 31 then
          noteDrop .late r { s with queue := { s.queue with requests := s.queue.requests.erase r } }
        else s
      | none => s := by
  unfold lateness
  rw [found]
  dsimp only
  cases r.lateExpiry with
  | none => cases r.state <;> rfl
  | some t =>
    cases state : r.state
    case due =>
      simp only [reached_iff, true_and, State.now]
      rfl
    all_goals simp

/-- Settles O29: the request is found by its identity, and its timer judged by the time. -/
theorem latenessDropsAndLastEndExpires : Obligations.LatenessDropsAndLastEndExpires := by
  refine ⟨fun id s running => ?_, fun c t s running last out => ?_⟩
  · show Host.Outcome.next (if s.running then lateness id s else s) = _
    rw [if_pos running, ← findRequest_eq]
    cases found : findRequest id s with
    | none => simp [lateness, found]
    | some r => exact congrArg _ ((lateness_of_found found).trans rfl)
  · show Host.Outcome.next (if s.running then lastEndExpires c s else s) = _
    rw [if_pos running, lastEndExpires, last]
    exact congrArg _ (if_pos (reached_iff.mpr out))

end Sys2Proof.Machine

/-! PROOFS. The checks of SET_RING (R45) and WRITE_PLAN (R63): each search reports the first position at which its check
fails, and a row of checks the first that does. -/

namespace Sys2Proof.Machine

open Sys2Proof.Safety

/-! ### First failures -/

/-- A search reports the first position that fails, or none when no position does. -/
def FirstAt (fails : Nat → Prop) (o : Option Nat) : Prop :=
  match o with
  | some i => fails i ∧ ∀ j, fails j → i ≤ j
  | none => ∀ j, ¬ fails j

/-- A row of checks, from number `start` on, reports the first check that fails with the first position at which it
does. -/
def Reports (fails : Nat → Nat → Prop) (start : Nat) (o : Option (Nat × Nat)) : Prop :=
  match o with
  | some (k, i) => fails k i ∧ ∀ k' j, start ≤ k' → fails k' j → k < k' ∨ (k = k' ∧ i ≤ j)
  | none => ∀ k, start ≤ k → ∀ j, ¬ fails k j

theorem FirstAt.congr {P Q : Nat → Prop} {o : Option Nat} (h : FirstAt P o) (same : ∀ i, P i ↔ Q i) : FirstAt Q o := by
  rwa [show P = Q from funext fun i => propext (same i)] at h

theorem Reports.found {fails : Nat → Nat → Prop} {k i : Nat} (h : FirstAt (fails k) (some i)) :
    Reports fails k (some (k, i)) := by
  refine ⟨h.1, fun k' j hk hf => ?_⟩
  obtain hlt | rfl := Nat.lt_or_eq_of_le hk
  · exact .inl hlt
  · exact .inr ⟨rfl, h.2 j hf⟩

theorem Reports.passed {fails : Nat → Nat → Prop} {k : Nat} {o : Option (Nat × Nat)} (h : FirstAt (fails k) none)
    (rest : Reports fails (k + 1) o) : Reports fails k o := by
  have skip : ∀ k' j, k ≤ k' → fails k' j → k + 1 ≤ k' := fun k' j hk hf => by
    obtain hlt | rfl := Nat.lt_or_eq_of_le hk
    · exact hlt
    · exact absurd hf (h j)
  match o, rest with
  | some (_, _), ⟨hf, first⟩ => exact ⟨hf, fun k' j hk hf' => first k' j (skip k' j hk hf') hf'⟩
  | none, clear => exact fun k' hk j hf => clear k' (skip k' j hk hf) j hf

theorem Reports.eq_none {fails : Nat → Nat → Prop} {start : Nat} {o : Option (Nat × Nat)} (h : Reports fails start o)
    (clear : ∀ k i, ¬ fails k i) : o = none := by
  match o, h with
  | none, _ => rfl
  | some (k, i), ⟨hf, _⟩ => exact absurd hf (clear k i)

theorem Reports.eq_some {fails : Nat → Nat → Prop} {start k i : Nat} {o : Option (Nat × Nat)} (h : Reports fails start o)
    (numbered : ∀ k i, fails k i → start ≤ k) (first : FirstFailure fails k i) : o = some (k, i) := by
  obtain ⟨hf, least⟩ := first
  match o, h with
  | none, clear => exact absurd hf (clear k (numbered k i hf) i)
  | some (k', i'), ⟨hf', least'⟩ =>
    have one := least k' i' hf'
    have other := least' k i (numbered k i hf) hf
    obtain rfl : k' = k := by omega
    obtain rfl : i' = i := by omega
    rfl

/-! ### The searches -/

theorem firstFailing_first {α : Type} (ok : α → Bool) (n : Nat) (xs : List α) :
    FirstAt (fun i => ∃ j x, i = n + j ∧ xs[j]? = some x ∧ ok x = false) (firstFailing ok n xs) := by
  induction xs generalizing n with
  | nil => simp [firstFailing, FirstAt]
  | cons x xs ih =>
    unfold firstFailing
    split
    next pass =>
      refine (ih (n + 1)).congr fun i => ⟨?_, ?_⟩
      · rintro ⟨j, y, rfl, hy, hf⟩
        exact ⟨j + 1, y, by omega, hy, hf⟩
      · rintro ⟨_ | j, y, rfl, hy, hf⟩
        · cases hy
          rw [pass] at hf
          cases hf
        · exact ⟨j, y, by omega, hy, hf⟩
    next fail =>
      exact ⟨⟨0, x, rfl, rfl, by simpa using fail⟩, by rintro i ⟨j, -, rfl, -⟩; omega⟩

theorem firstFailingPair_first {α : Type} (ok : α → α → Bool) (n : Nat) (xs : List α) :
    FirstAt (fun i => ∃ j x y, i = n + (j + 1) ∧ xs[j]? = some x ∧ xs[j + 1]? = some y ∧ ok x y = false)
      (firstFailingPair ok n xs) := by
  fun_induction firstFailingPair ok n xs with
  | case1 n x y rest pass ih =>
    refine ih.congr fun i => ⟨?_, ?_⟩
    · rintro ⟨j, a, b, rfl, ha, hb, hf⟩
      exact ⟨j + 1, a, b, by omega, ha, hb, hf⟩
    · rintro ⟨_ | j, a, b, rfl, ha, hb, hf⟩
      · cases ha
        cases hb
        rw [pass] at hf
        cases hf
      · exact ⟨j, a, b, by omega, ha, hb, hf⟩
  | case2 n x y rest fail =>
    exact ⟨⟨0, x, y, rfl, rfl, rfl, by simpa using fail⟩, by rintro i ⟨j, -, -, rfl, -⟩; omega⟩
  | case3 xs n short =>
    rintro i ⟨j, a, b, -, ha, hb, -⟩
    match xs, short with
    | [], _ => simp at ha
    | [_], _ => simp at hb
    | x :: y :: rest, short => exact short x y rest rfl

theorem failingGap_first (ok : Nat → Nat → Bool) (n : Nat) (ring : List RingEntry) :
    FirstAt (fun i => ∃ j x y, i = n + j ∧ ring[j]? = some x ∧ ring[j + 1]? = some y ∧ ok x.tdc y.tdc = false)
      (failingGap ok n ring) := by
  fun_induction failingGap ok n ring with
  | case1 n x y rest pass ih =>
    refine ih.congr fun i => ⟨?_, ?_⟩
    · rintro ⟨j, a, b, rfl, ha, hb, hf⟩
      exact ⟨j + 1, a, b, by omega, ha, hb, hf⟩
    · rintro ⟨_ | j, a, b, rfl, ha, hb, hf⟩
      · cases ha
        cases hb
        rw [pass] at hf
        cases hf
      · exact ⟨j, a, b, by omega, ha, hb, hf⟩
  | case2 n x y rest fail =>
    exact ⟨⟨0, x, y, rfl, rfl, rfl, by simpa using fail⟩, by rintro i ⟨j, -, -, rfl, -⟩; omega⟩
  | case3 xs n short =>
    rintro i ⟨j, a, b, -, ha, hb, -⟩
    match xs, short with
    | [], _ => simp at ha
    | [_], _ => simp at hb
    | x :: y :: rest, short => exact short x y rest rfl

theorem repeatedCylinder_first (n : Nat) (seen : List Cylinder) (ring : List RingEntry) :
    FirstAt (fun i => ∃ j y, i = n + j ∧ ring[j]? = some y ∧
      (y.cylinder ∈ seen ∨ ∃ k x, k < j ∧ ring[k]? = some x ∧ x.cylinder = y.cylinder)) (repeatedCylinder n seen ring) := by
  induction ring generalizing n seen with
  | nil => simp [repeatedCylinder, FirstAt]
  | cons e rest ih =>
    unfold repeatedCylinder
    split
    next again =>
      exact ⟨⟨0, e, rfl, rfl, .inl (by simpa using again)⟩, by rintro i ⟨j, -, rfl, -⟩; omega⟩
    next fresh =>
      refine (ih (n + 1) (e.cylinder :: seen)).congr fun i => ⟨?_, ?_⟩
      · rintro ⟨j, y, rfl, hy, same⟩
        refine ⟨j + 1, y, by omega, hy, ?_⟩
        obtain same | ⟨k, x, hk, hx, same⟩ := same
        · obtain same | same := List.mem_cons.mp same
          · exact .inr ⟨0, e, by omega, rfl, same.symm⟩
          · exact .inl same
        · exact .inr ⟨k + 1, x, by omega, hx, same⟩
      · rintro ⟨_ | j, y, rfl, hy, same⟩
        · cases hy
          obtain same | ⟨k, x, hk, -⟩ := same
          · exact absurd (by simpa using same) fresh
          · omega
        · refine ⟨j, y, by omega, hy, ?_⟩
          obtain same | ⟨_ | k, x, hk, hx, same⟩ := same
          · exact .inl (List.mem_cons_of_mem _ same)
          · cases hx
            exact .inl (same ▸ List.mem_cons_self)
          · exact .inr ⟨k, x, by omega, hx, same⟩

/-! ### The entry checks of WRITE_PLAN -/

theorem kindOfCode_eq_none_iff {n : Nat} : kindOfCode n = none ↔ 4 < n := by
  match n with
  | 0 | 1 | 2 | 3 | 4 => simp [kindOfCode]
  | n + 5 => simp [kindOfCode]

theorem entryFails_numbered {lead : Nat} {es : List RawEntry} {k i : Nat} (h : EntryFails lead es k i) : 2 ≤ k ∧ k < 7 := by
  match k, h with
  | 2, _ | 3, _ | 4, _ | 5, _ | 6, _ => omega

theorem entryFailure_reports (lead : Nat) (es : List RawEntry) : Reports (EntryFails lead es) 2 (entryFailure lead es) := by
  have kinds : FirstAt (EntryFails lead es 2) (firstFailing (fun e => (kindOfCode e.kind).isSome) 0 es) :=
    (firstFailing_first _ 0 es).congr fun i => by simp [EntryFails, kindOfCode_eq_none_iff]
  have order : FirstAt (EntryFails lead es 3) (firstFailingPair (fun x y => decide (x.kind < y.kind)) 0 es) :=
    (firstFailingPair_first _ 0 es).congr fun i => by
      simp only [EntryFails, decide_eq_false_iff_not, Nat.not_lt, Nat.zero_add]
      grind
  have starts : FirstAt (EntryFails lead es 4) (firstFailingPair (fun x y => decide (x.start < y.start)) 0 es) :=
    (firstFailingPair_first _ 0 es).congr fun i => by
      simp only [EntryFails, decide_eq_false_iff_not, Int.not_lt, Nat.zero_add]
      grind
  have ranges : FirstAt (EntryFails lead es 5) (firstFailing (fun e => startInRange lead e.start) 0 es) :=
    (firstFailing_first _ 0 es).congr fun i => by
      simp only [EntryFails, ← Bool.not_eq_true, startInRange_iff, Nat.zero_add]
      grind
  have durations : FirstAt (EntryFails lead es 6) (firstFailing (fun e => decide (e.duration ≤ 10000)) 0 es) :=
    (firstFailing_first _ 0 es).congr fun i => by simp [EntryFails]
  unfold entryFailure
  split
  next i h => exact .found (h ▸ kinds)
  next h =>
    refine .passed (h ▸ kinds) ?_
    split
    next i h => exact .found (h ▸ order)
    next h =>
      refine .passed (h ▸ order) ?_
      split
      next i h => exact .found (h ▸ starts)
      next h =>
        refine .passed (h ▸ starts) ?_
        split
        next i h => exact .found (h ▸ ranges)
        next h =>
          refine .passed (h ▸ ranges) ?_
          split
          next i h => exact .found (h ▸ durations)
          next h => exact .passed (h ▸ durations) fun k hk j hf => by have := entryFails_numbered hf; omega

/-- The entries of a plan in order pass every check (R62, R63). -/
theorem entryFailure_of_inOrder {lead : Nat} {plan : List PlanEntry} (h : PlanInOrder lead plan) :
    entryFailure lead (plan.map (fun e => (⟨kindCode e.kind, e.start, e.duration⟩ : RawEntry))) = none := by
  obtain ⟨order, range⟩ := h
  have neighbours : ∀ {j : Nat} {a b : PlanEntry}, plan[j]? = some a → plan[j + 1]? = some b →
      kindCode a.kind < kindCode b.kind ∧ a.start < b.start := by
    intro j a b ha hb
    obtain ⟨hj, rfl⟩ := List.getElem?_eq_some_iff.mp ha
    obtain ⟨hk, rfl⟩ := List.getElem?_eq_some_iff.mp hb
    exact List.pairwise_iff_getElem.mp order j (j + 1) hj hk (by omega)
  refine (entryFailure_reports _ _).eq_none fun k i hf => ?_
  match k, hf with
  | 2, ⟨e, he, hkind⟩ =>
    obtain ⟨x, -, rfl⟩ := Option.map_eq_some_iff.mp (List.getElem?_map .. ▸ he)
    cases hk : x.kind <;> simp [hk, kindCode] at hkind
  | 3, ⟨j, a, b, hi, ha, hb, hle⟩ | 4, ⟨j, a, b, hi, ha, hb, hle⟩ =>
    subst hi
    obtain ⟨x, hx, rfl⟩ := Option.map_eq_some_iff.mp (List.getElem?_map .. ▸ ha)
    obtain ⟨y, hy, rfl⟩ := Option.map_eq_some_iff.mp (List.getElem?_map .. ▸ hb)
    have := neighbours hx hy
    dsimp only at hle
    omega
  | 5, ⟨e, he, hout⟩ | 6, ⟨e, he, hout⟩ =>
    obtain ⟨x, hx, rfl⟩ := Option.map_eq_some_iff.mp (List.getElem?_map .. ▸ he)
    obtain ⟨low, high, short⟩ := range x (List.mem_of_getElem? hx)
    dsimp only at hout
    omega

end Sys2Proof.Machine

/-! PROOFS. WRITE_PLAN (R63 to R65) and SET_RING (R45 to R47): the payload read back, and what the checks make of it. -/

namespace Sys2Proof.Machine

open Sys2Proof.Safety

/-! ### Fields of payloads (R200) -/

theorem u8_add {p l : List Byte} {i : Nat} (h : p.drop i = l) (k : Nat) : u8 p (i + k) = u8 l k := by
  subst h
  simp only [u8, List.getD_eq_getElem?_getD, List.getElem?_drop]

theorem u16_add {p l : List Byte} {i : Nat} (h : p.drop i = l) (k : Nat) : u16 p (i + k) = u16 l k := by
  unfold u16
  rw [u8_add h, Nat.add_assoc, u8_add h]

theorem s16_add {p l : List Byte} {i : Nat} (h : p.drop i = l) (k : Nat) : s16 p (i + k) = s16 l k := by
  unfold s16
  rw [u16_add h]

theorem word_le16 {n : Nat} (h : n < 65536) : word (byte n) (byte (n / 256)) = n := by
  simp only [word, byte, BitVec.toNat_ofNat]
  omega

/-- A signed 16-bit field written is read back (R200). -/
theorem s16_le16s {n : Int} (low : -32768 ≤ n) (high : n < 32768) (b : Byte) (rest : List Byte) :
    s16 (b :: (le16s n ++ rest)) 1 = n := by
  have field : u16 (b :: (le16s n ++ rest)) 1 = (n % 65536).toNat := word_le16 (by omega)
  rw [s16, field]
  split <;> omega

/-! ### Entries in payloads (R204) -/

/-- The entry whose bytes stand at an offset is read back. -/
theorem rawEntryAt_of_drop {p rest : List Byte} {i : Nat} {e : RawEntry} (carried : Carried e)
    (h : p.drop i = entryBytes e ++ rest) : rawEntryAt p i = e := by
  obtain ⟨kind, low, high, duration⟩ := carried
  have bytes : p.drop i = byte e.kind :: (le16s e.start ++ (le16 e.duration ++ rest)) := by
    rw [h, entryBytes, List.cons_append, List.append_assoc]
  have hkind : u8 p i = e.kind := (u8_add bytes 0).trans (byte_toNat kind)
  have hstart : s16 p (i + 1) = e.start := (s16_add bytes 1).trans (s16_le16s low high _ _)
  have hduration : u16 p (i + 3) = e.duration := (u16_add bytes 3).trans (word_le16 duration)
  rw [rawEntryAt, hkind, hstart, hduration]

theorem entryBytes_length (e : RawEntry) : (entryBytes e).length = 5 := rfl

/-- A row of entries is read back (R204). -/
theorem rawEntries_of_drop {es : List RawEntry} {p rest : List Byte} {i : Nat} (carried : ∀ e ∈ es, Carried e)
    (h : p.drop i = es.flatMap entryBytes ++ rest) : rawEntries p i es.length = es := by
  induction es generalizing i with
  | nil => rfl
  | cons e es ih =>
    rw [List.flatMap_cons, List.append_assoc] at h
    have next : p.drop (i + 5) = es.flatMap entryBytes ++ rest := by
      rw [← List.drop_drop, h, ← entryBytes_length e, List.drop_left]
    rw [List.length_cons, rawEntries, rawEntryAt_of_drop (carried e List.mem_cons_self) h,
      ih (fun x hx => carried x (List.mem_cons_of_mem e hx)) next]

/-- The payload of WRITE_PLAN for a cylinder and entries (R207). -/
def planPayload (c : Cylinder) (es : List RawEntry) : List Byte :=
  [byte (cylNumber c), byte es.length] ++ es.flatMap entryBytes

theorem cylOfNumber_cylNumber (c : Cylinder) : cylOfNumber (byte (cylNumber c)).toNat = some c := by
  cases c <;> rfl

theorem cylOfNumber_eq_none_iff {n : Nat} : cylOfNumber n = none ↔ n < 1 ∨ 8 < n := by
  match n with
  | 0 | 1 | 2 | 3 | 4 | 5 | 6 | 7 | 8 => simp [cylOfNumber]
  | n + 9 => simp [cylOfNumber]

theorem flatMap_entryBytes_length (es : List RawEntry) : (es.flatMap entryBytes).length = 5 * es.length := by
  induction es with
  | nil => rfl
  | cons e es ih => rw [List.flatMap_cons, List.length_append, ih, entryBytes_length, List.length_cons]; omega

theorem planFailure_planPayload {lead : Nat} {c : Cylinder} {es : List RawEntry} (carried : ∀ e ∈ es, Carried e)
    (few : es.length ≤ 5) :
    planFailure lead (planPayload c es) = entryFailure lead es ∧
      rawEntries (planPayload c es) 2 (u8 (planPayload c es) 1) = es ∧ cylOfNumber (u8 (planPayload c es) 0) = some c := by
  have cylinder : cylOfNumber (u8 (planPayload c es) 0) = some c := cylOfNumber_cylNumber c
  have count : u8 (planPayload c es) 1 = es.length := byte_toNat (by omega)
  have length : (planPayload c es).length = 2 + 5 * es.length := by
    rw [planPayload, List.length_append, flatMap_entryBytes_length]; rfl
  have entries : rawEntries (planPayload c es) 2 es.length = es :=
    rawEntries_of_drop (rest := []) carried (by simp [planPayload])
  have whole : planCheckOne (planPayload c es) = true := by simp [planCheckOne, cylinder, count, length, few]
  rw [planFailure, if_pos whole, count, entries]
  exact ⟨rfl, rfl, cylinder⟩

theorem freshEntry_of_parityGood {e : PlanEntry} (h : parityGood e = true) : freshEntry e.kind e.start e.duration = e := by
  have even : (entryOnes e.kind e.start e.duration + bit e.parity) % 2 = 0 := by simpa [parityGood] using h
  have parity : (entryOnes e.kind e.start e.duration % 2 == 1) = e.parity := by
    cases hp : e.parity
    · have : bit false = 0 := rfl
      rw [hp, this] at even
      rw [beq_eq_false_iff_ne]
      omega
    · have : bit true = 1 := rfl
      rw [hp, this] at even
      rw [beq_iff_eq]
      omega
  rw [freshEntry, parity]

theorem kindOfCode_kindCode (k : PulseKind) : kindOfCode (kindCode k) = some k := by cases k <;> rfl

/-- What is stored of a plan's entries is the plan, when its parities match (R77). -/
theorem storedEntries_of_parityGood {plan : List PlanEntry} (h : ∀ e ∈ plan, parityGood e = true) :
    storedEntries (plan.map (fun e => (⟨kindCode e.kind, e.start, e.duration⟩ : RawEntry))) = plan := by
  induction plan with
  | nil => rfl
  | cons e plan ih =>
    rw [List.map_cons, storedEntries, List.filterMap_cons, kindOfCode_kindCode]
    exact congrArg₂ _ (freshEntry_of_parityGood (h e List.mem_cons_self))
      (ih fun x hx => h x (List.mem_cons_of_mem e hx))

/-- A plan in order holds a kind once, so it has at most five entries (R62). -/
theorem length_of_inOrder {lead : Nat} {plan : List PlanEntry} (h : PlanInOrder lead plan) : plan.length ≤ 5 := by
  have apart : (plan.map (fun e => kindCode e.kind)).Nodup :=
    List.pairwise_map.mpr (h.1.imp fun hlt => Nat.ne_of_lt hlt.1)
  have within : ∀ n ∈ plan.map (fun e => kindCode e.kind), n ∈ List.range 5 := by
    simp only [List.mem_map, List.mem_range]
    rintro n ⟨e, -, rfl⟩
    cases e.kind <;> decide
  have := (List.subperm_of_subset apart within).length_le
  simpa using this

/-- A write to the staging bank replaces the cylinder's plan there (R64). -/
theorem stage_eq (t : Store) (c : Cylinder) (es : List PlanEntry) :
    t.stage c es = match t.active with
      | .a => { t with planB := { t.planB with plans := t.planB.plans.set c es } }
      | .b => { t with planA := { t.planA with plans := t.planA.plans.set c es } } := by
  rcases t with ⟨_, _, _ | _, _, _, _⟩ <;> rfl

theorem ownWritePlan_of_failure {p : List Byte} {s : State} {check i : Nat} (idle : s.store.pendingSwap = none)
    (h : planFailure s.table.planLead p = some (check, i)) : ownWritePlan p s = refuse s .badValue [byte check, byte i] := by
  simp [ownWritePlan, idle, h]

theorem ownWritePlan_of_pass {p : List Byte} {c : Cylinder} {s : State} (idle : s.store.pendingSwap = none)
    (h : planFailure s.table.planLead p = none) (hc : cylOfNumber (u8 p 0) = some c) :
    ownWritePlan p s = answerOk (s.setStore (s.store.stage c (storedEntries (rawEntries p 2 (u8 p 1))))) [] := by
  simp [ownWritePlan, idle, h, hc]

/-- Settles O17: the payload is read back entry by entry, and the checks report the first that fails. -/
theorem writePlanStoresOrReportsTheFirstFailure : Obligations.WritePlanStoresOrReportsTheFirstFailure := by
  refine ⟨fun tag c es plan s running idle carried raw inOrder parities => ?stored, fun tag s running => ⟨fun p locked => ?locked,
    fun c n rest idle bad => ?first, fun c es check i idle carried few first => ?reported⟩⟩
  case stored =>
    subst raw
    have few := length_of_inOrder inOrder
    obtain ⟨checks, entries, cylinder⟩ := planFailure_planPayload (lead := s.table.planLead) (c := c) carried (by simpa using few)
    have own := ownWritePlan_of_pass idle (checks.trans (entryFailure_of_inOrder inOrder)) cylinder
    rw [entries, storedEntries_of_parityGood parities, stage_eq] at own
    exact (exec_of_owner (c := .writePlan) rfl running own).trans rfl
  case locked => exact exec_of_answer rfl running (if_pos locked)
  case first =>
    have check : planFailure s.table.planLead (c :: n :: rest) = some (1, 255) := by
      have none : cylOfNumber (u8 (c :: n :: rest) 0) = none ∨ ¬ u8 (c :: n :: rest) 1 ≤ 5 := by
        rw [cylOfNumber_eq_none_iff]
        rcases bad with h | h | h
        · exact .inl (.inl h)
        · exact .inl (.inr h)
        · exact .inr (Nat.not_le.mpr h)
      rcases none with h | h <;> simp [planFailure, planCheckOne, h]
    exact exec_of_answer rfl running (ownWritePlan_of_failure idle check)
  case reported =>
    obtain ⟨checks, -, -⟩ := planFailure_planPayload (lead := s.table.planLead) (c := c) carried few
    have found := (entryFailure_reports s.table.planLead es).eq_some (fun _ _ h => (entryFails_numbered h).1) first
    exact exec_of_answer rfl running (ownWritePlan_of_failure idle (checks.trans found))

/-! ### The ring of SET_RING -/

/-- The payload of SET_RING for a ring (R204, R207). -/
def ringPayload (l0 l1 m : Byte) (ring : List RingEntry) : List Byte :=
  [byte ring.length, l0, l1, m] ++ ring.flatMap ringBytes

theorem ringBytes_length (e : RingEntry) : (ringBytes e).length = 4 := rfl

theorem flatMap_ringBytes_length (ring : List RingEntry) : (ring.flatMap ringBytes).length = 4 * ring.length := by
  induction ring with
  | nil => rfl
  | cons e ring ih => rw [List.flatMap_cons, List.length_append, ih, ringBytes_length, List.length_cons]; omega

theorem bankOfCode_bankCode (x : Bank) : bankOfCode (byte (bankCode x)).toNat = some x := by cases x <;> rfl

/-- A ring is read back from its bytes (R204). -/
theorem mapM_rawRing_of_drop {ring : List RingEntry} {p : List Byte} {i : Nat} (range : ∀ e ∈ ring, e.tdc ≤ 11519)
    (h : p.drop i = ring.flatMap ringBytes) : (rawRing p i ring.length).mapM ringEntryOf = some ring := by
  induction ring generalizing i with
  | nil => rfl
  | cons e ring ih =>
    rw [List.flatMap_cons] at h
    have bytes : p.drop i = byte (cylNumber e.cylinder) ::
        (le16 e.tdc ++ (byte (bankCode e.bank) :: ring.flatMap ringBytes)) := by
      rw [h, ringBytes, List.cons_append, List.append_assoc]
      rfl
    have next : p.drop (i + 4) = ring.flatMap ringBytes := by
      rw [← List.drop_drop, h, ← ringBytes_length e, List.drop_left]
    have tdc := range e List.mem_cons_self
    have hcylinder : u8 p i = (byte (cylNumber e.cylinder)).toNat := u8_add bytes 0
    have htdc : u16 p (i + 1) = e.tdc := (u16_add bytes 1).trans (word_le16 (by omega))
    have hbank : u8 p (i + 3) = (byte (bankCode e.bank)).toNat := u8_add bytes 3
    have entry : ringEntryOf { cylinder := u8 p i, tdc := u16 p (i + 1), bank := u8 p (i + 3) } = some e := by
      rw [hcylinder, htdc, hbank, ringEntryOf, cylOfNumber_cylNumber, bankOfCode_bankCode]
      exact if_pos tdc
    rw [List.length_cons, rawRing, List.mapM_cons, entry, ih (fun x hx => range x (List.mem_cons_of_mem e hx)) next]
    rfl

theorem mem_rawRing {p : List Byte} {i k n : Nat} (h : k < n) :
    { cylinder := u8 p (i + 4 * k), tdc := u16 p (i + 4 * k + 1), bank := u8 p (i + 4 * k + 3) } ∈ rawRing p i n := by
  induction n generalizing i k with
  | zero => omega
  | succ n ih =>
    cases k with
    | zero => exact List.mem_cons_self
    | succ k =>
      have := ih (i := i + 4) (k := k) (by omega)
      rw [show i + 4 + 4 * k = i + 4 * (k + 1) by omega] at this
      exact List.mem_cons_of_mem _ this

theorem mapM_eq_none_of_mem {α β : Type} {f : α → Option β} {a : α} {l : List α} (ha : a ∈ l) (fails : f a = none) :
    l.mapM f = none := by
  induction l with
  | nil => cases ha
  | cons x l ih =>
    rw [List.mapM_cons]
    obtain rfl | ha := List.mem_cons.mp ha
    · rw [fails]
      rfl
    · rw [ih ha]
      cases f x <;> rfl

/-- The ranges of R45's second step, but for the entries. -/
def ringRange (z lead threshold : Nat) : Prop :=
  1 ≤ z ∧ z ≤ 8 ∧ 960 ≤ lead ∧ lead ≤ 2880 ∧ 1 ≤ threshold ∧ threshold ≤ 15

theorem ringOf_of_range {p : List Byte} (length : p.length = 4 + 4 * u8 p 0) (range : ringRange (u8 p 0) (u16 p 1) (u8 p 3)) :
    ringOf p = (rawRing p 4 (u8 p 0)).mapM ringEntryOf := by
  obtain ⟨z1, z8, l1, l2, t1, t15⟩ := range
  exact if_pos (by simp [z1, z8, length, l1, l2, t1, t15])

theorem ringOf_of_not_range {p : List Byte} (range : ¬ ringRange (u8 p 0) (u16 p 1) (u8 p 3)) : ringOf p = none := by
  refine if_neg fun h => range ?_
  simp only [Bool.and_eq_true, decide_eq_true_eq] at h
  obtain ⟨⟨⟨⟨⟨⟨z1, z8⟩, -⟩, l1⟩, l2⟩, t1⟩, t15⟩ := h
  exact ⟨z1, z8, l1, l2, t1, t15⟩

theorem ringOf_ringPayload {l0 l1 m : Byte} {ring : List RingEntry} (some_ : 1 ≤ ring.length) (few : ring.length ≤ 8)
    (range : ∀ e ∈ ring, e.tdc ≤ 11519) (l960 : 960 ≤ word l0 l1) (l2880 : word l0 l1 ≤ 2880) (t1 : 1 ≤ m.toNat)
    (t15 : m.toNat ≤ 15) : ringOf (ringPayload l0 l1 m ring) = some ring := by
  have size : u8 (ringPayload l0 l1 m ring) 0 = ring.length := byte_toNat (by omega)
  have length : (ringPayload l0 l1 m ring).length = 4 + 4 * ring.length := by
    rw [ringPayload, List.length_append, flatMap_ringBytes_length]; rfl
  rw [ringOf_of_range (by rw [size, length]) (by rw [size]; exact ⟨some_, few, l960, l2880, t1, t15⟩), size]
  exact mapM_rawRing_of_drop range rfl

theorem ringEntryOf_eq_none {e : RawRingEntry} (h : e.cylinder < 1 ∨ 8 < e.cylinder ∨ 11519 < e.tdc ∨ 1 < e.bank) :
    ringEntryOf e = none := by
  unfold ringEntryOf
  split
  next c x hc hx =>
    refine if_neg fun tdc => ?_
    have cylinder : ¬ (e.cylinder < 1 ∨ 8 < e.cylinder) := fun bad => by
      rw [cylOfNumber_eq_none_iff.mpr bad] at hc
      cases hc
    have bank : e.bank ≤ 1 := by
      unfold bankOfCode at hx
      split at hx
      · omega
      · omega
      · cases hx
    omega
  next => rfl

/-! ### The ring checks (R45) -/

theorem storedStartsFit_eq_false_iff {lead : Nat} {t : Store} :
    storedStartsFit lead t = false ↔
      ∃ e : PlanEntry, (e = t.limp ∨ ∃ c, e ∈ t.planA.plans.get c ∨ e ∈ t.planB.plans.get c) ∧
        e.start < 480 - (lead : Int) := by
  simp only [storedStartsFit, Bool.and_eq_false_iff, List.all_eq_false, mem_allCylinders, true_and, Bool.not_eq_true,
    decide_eq_false_iff_not, Int.not_le]
  constructor
  · rintro (⟨c, ⟨e, he, low⟩ | ⟨e, he, low⟩⟩ | low)
    · exact ⟨e, .inr ⟨c, .inl he⟩, low⟩
    · exact ⟨e, .inr ⟨c, .inr he⟩, low⟩
    · exact ⟨_, .inl rfl, low⟩
  · rintro ⟨e, rfl | ⟨c, he | he⟩, low⟩
    · exact .inr low
    · exact .inl ⟨c, .inl ⟨e, he, low⟩⟩
    · exact .inl ⟨c, .inr ⟨e, he, low⟩⟩

theorem ringFails_numbered {lead : Nat} {ring : List RingEntry} {t : Store} {k i : Nat} (h : RingFails lead ring t k i) :
    1 ≤ k ∧ k < 5 := by
  match k, h with
  | 1, _ | 2, _ | 3, _ | 4, _ => omega

/-- The wrap gap is between the last position and the first (R45, check 3). -/
theorem wrapGap_lt_iff {ring : List RingEntry} :
    wrapGap ring < 480 ↔ ∃ x y, ring[0]? = some x ∧ ring[ring.length - 1]? = some y ∧ x.tdc + 11520 < y.tdc + 480 := by
  unfold wrapGap
  rw [List.head?_eq_getElem?, List.getLast?_eq_getElem?]
  cases ring with
  | nil => simp
  | cons e ring =>
    obtain ⟨y, hy⟩ : ∃ y, (e :: ring)[(e :: ring).length - 1]? = some y := ⟨_, List.getElem?_eq_getElem (by simp)⟩
    rw [hy]
    simp only [List.getElem?_cons_zero, Option.some.injEq, exists_and_left, exists_eq_left']
    omega

theorem ringFailure_reports (lead : Nat) (ring : List RingEntry) (t : Store) :
    Reports (RingFails lead ring t) 1 (ringFailure lead ring t) := by
  have cylinders : FirstAt (RingFails lead ring t 1) (repeatedCylinder 0 [] ring) :=
    (repeatedCylinder_first 0 [] ring).congr fun i => by
      simp only [RingFails, List.not_mem_nil, false_or, Nat.zero_add]
      grind
  have order : FirstAt (RingFails lead ring t 2) (failingGap (fun x y => x < y) 0 ring) :=
    (failingGap_first _ 0 ring).congr fun i => by
      simp only [RingFails, decide_eq_false_iff_not, Nat.not_lt, Nat.zero_add]
      grind
  have gaps := failingGap_first (fun x y => x + 480 ≤ y) 0 ring
  have wrap : ∀ p, (∃ x y, ring[0]? = some x ∧ ring[p]? = some y ∧ p + 1 = ring.length ∧ x.tdc + 11520 < y.tdc + 480) ↔
      p + 1 = ring.length ∧ wrapGap ring < 480 := fun p => by
    rw [wrapGap_lt_iff]
    constructor
    · rintro ⟨x, y, hx, hy, last, low⟩
      exact ⟨last, x, y, hx, by rwa [← last], low⟩
    · rintro ⟨last, x, y, hx, hy, low⟩
      rw [← last] at hy
      exact ⟨x, y, hx, hy, last, low⟩
  have gapFails : ∀ p, (∃ j x y, p = 0 + j ∧ ring[j]? = some x ∧ ring[j + 1]? = some y ∧
      decide (x.tdc + 480 ≤ y.tdc) = false) ↔
      ∃ x y, ring[p]? = some x ∧ ring[p + 1]? = some y ∧ y.tdc < x.tdc + 480 := fun p => by
    simp only [decide_eq_false_iff_not, Nat.not_le, Nat.zero_add]
    grind
  replace gaps := gaps.congr gapFails
  unfold ringFailure
  split
  next i h => exact .found (h ▸ cylinders)
  next h =>
    refine .passed (h ▸ cylinders) ?_
    split
    next i h => exact .found (h ▸ order)
    next h =>
      refine .passed (h ▸ order) ?_
      split
      next i h =>
        rw [h] at gaps
        refine .found ⟨.inl gaps.1, fun j hj => hj.elim (gaps.2 j) fun last => ?_⟩
        -- a gap within the list stands before its last position
        obtain ⟨x, y, -, hy, -⟩ := gaps.1
        have := (List.getElem?_eq_some_iff.mp hy).1
        have := ((wrap j).mp last).1
        omega
      next h =>
        rw [h] at gaps
        split
        next low =>
          have nonempty : ring.length ≠ 0 := fun empty => by
            obtain ⟨x, -, hx, -⟩ := wrapGap_lt_iff.mp low
            have := (List.getElem?_eq_some_iff.mp hx).1
            omega
          refine .found ⟨.inr ((wrap _).mpr ⟨by omega, low⟩), fun j hj => hj.elim (fun hj => absurd hj (gaps j)) fun last => ?_⟩
          have := ((wrap j).mp last).1
          omega
        next wide =>
          refine .passed (fun j hj => hj.elim (gaps j) fun last => wide ((wrap j).mp last).2) ?_
          split
          next low =>
            have low : storedStartsFit lead t = false := by simpa using low
            exact .found ⟨⟨rfl, storedStartsFit_eq_false_iff.mp low⟩, fun j hj => hj.1.ge⟩
          next fit =>
            refine .passed (fun j hj => fit ?_) fun k hk j hf => ?_
            · rw [storedStartsFit_eq_false_iff.mpr hj.2]
              rfl
            · have := ringFails_numbered hf
              omega

theorem ownSetRing_of_ring {p : List Byte} {ring : List RingEntry} {s : State} (stopped : s.tracker.sync = .stopped)
    (h : ringOf p = some ring) :
    ownSetRing p s = match ringFailure (u16 p 1) ring s.store with
      | some (check, position) => refuse s .ringInvalid [byte check, byte position]
      | none => answerOk { s with table := s.table.withRing ring (u16 p 1) (u8 p 3) } [] := by
  refine (if_neg (not_not.mpr stopped)).trans ?_
  simp only [h] <;> rfl

theorem ownSetRing_of_no_ring {p : List Byte} {s : State} (stopped : s.tracker.sync = .stopped)
    (h : ringOf p = none) : ownSetRing p s = refuse s .badValue [] := by
  refine (if_neg (not_not.mpr stopped)).trans ?_
  simp only [h]

theorem planPoint_eq {lead tdc : Nat} (h : lead ≤ 11520) : planPoint lead tdc = (tdc + 11520 - lead) % 11520 := by
  simp only [planPoint, cycleMod]
  omega

/-- Settles O15: the ring is read back from its bytes, and the checks report the first that fails. -/
theorem ringIsAcceptedOrRefusedByItsChecks : Obligations.RingIsAcceptedOrRefusedByItsChecks := by
  refine ⟨fun tag l0 l1 m ring s running stopped some_ few range l960 l2880 t1 t15 clear => ?accepted,
    fun tag z l0 l1 m rest ring s running => ⟨fun p turning => ?turning, fun stopped length bad => ?range,
      fun stopped some_ few range l960 l2880 t1 t15 check p first => ?invalid⟩⟩
  case accepted =>
    have own := ownSetRing_of_ring stopped (ringOf_ringPayload some_ few range l960 l2880 t1 t15)
    rw [show u16 (ringPayload l0 l1 m ring) 1 = word l0 l1 from rfl, (ringFailure_reports _ _ _).eq_none clear] at own
    refine (exec_of_owner (c := .setRing) rfl running own).trans ?_
    simp only [CylinderTable.withRing, planPoint_eq (show word l0 l1 ≤ 11520 by omega)]
    rfl
  case turning => exact exec_of_answer rfl running (if_pos turning)
  case range =>
    refine exec_of_answer rfl running (ownSetRing_of_no_ring stopped ?_)
    by_cases range : ringRange z.toNat (word l0 l1) m.toNat
    · have entry : ∃ i < z.toNat, ∃ c t0 t1 b, rest[4 * i]? = some c ∧ rest[4 * i + 1]? = some t0 ∧
          rest[4 * i + 2]? = some t1 ∧ rest[4 * i + 3]? = some b ∧
          (c.toNat < 1 ∨ 8 < c.toNat ∨ 11519 < word t0 t1 ∨ 1 < b.toNat) := by
        obtain ⟨z1, z8, l1, l2, t1, t15⟩ := range
        rcases bad with h | h | h | h | h | h | h
        case inr.inr.inr.inr.inr.inr => exact h
        all_goals omega
      obtain ⟨i, hi, c, t0, t1, b, hc, ht0, ht1, hb, bad⟩ := entry
      rw [ringOf_of_range (p := z :: l0 :: l1 :: m :: rest) (by simp [length, u8]; omega) range]
      refine mapM_eq_none_of_mem (mem_rawRing hi) (ringEntryOf_eq_none ?_)
      have drop : (z :: l0 :: l1 :: m :: rest).drop 4 = rest := rfl
      have field : ∀ {k : Nat} {x : Byte}, rest[k]? = some x → u8 rest k = x.toNat := fun {k x} h => by
        simp [u8, h]
      simp only [Nat.add_assoc, u8_add drop, u16_add drop, field hc, field hb]
      have tdc : u16 rest (4 * i + 1) = word t0 t1 := by
        rw [u16, field ht0, field ht1]
        rfl
      rwa [tdc]
    · exact ringOf_of_not_range range
  case invalid =>
    have own := ownSetRing_of_ring stopped (ringOf_ringPayload some_ few range l960 l2880 t1 t15)
    rw [show u16 (ringPayload l0 l1 m ring) 1 = word l0 l1 from rfl,
      (ringFailure_reports _ _ _).eq_some (fun _ _ h => (ringFails_numbered h).1) first] at own
    exact exec_of_answer (c := .setRing) rfl running own

end Sys2Proof.Machine

/-! PROOFS. The start of a request: at its timer, at a tooth event and at a cam edge (R93 to R98). -/

namespace Sys2Proof.Machine

open Sys2Proof.Safety

/-! ### The work at a tooth event (R95) -/

theorem startDelay_eq (w : Wheel) (d predicted : Nat) :
    startDelay w d predicted = (d * predicted + ticksPerTooth w / 2) / ticksPerTooth w := by
  unfold startDelay
  split
  next none =>
    have : 0 < ticksPerTooth w := by cases w <;> decide
    rw [none, Nat.zero_mul, Nat.zero_add, Nat.div_eq_of_lt (by omega)]
  next => rfl

theorem atTooth_eq (w : Wheel) (e : ToothEvent) (r : Request) :
    r.atTooth w e =
      if r.state = .planned then
        if r.sortKey - (e.spanBefore : Int) * (5760 / pitches w : Nat) ≤ (e.spanNext : Int) * (5760 / pitches w : Nat) then
          { r with
            sortKey := r.sortKey - (e.spanBefore : Int) * (5760 / pitches w : Nat)
            state := .armed
            scheduledStart := some (e.time + BitVec.ofNat 32
              (((r.sortKey - (e.spanBefore : Int) * (5760 / pitches w : Nat)).toNat * e.predicted + 5760 / pitches w / 2) /
                (5760 / pitches w))) }
        else { r with sortKey := r.sortKey - (e.spanBefore : Int) * (5760 / pitches w : Nat) }
      else if r.state = .armed then { r with sortKey := r.sortKey - (e.spanBefore : Int) * (5760 / pitches w : Nat) }
      else r := by
  unfold Request.atTooth
  cases state : r.state <;> simp [Request.anchor, later, startDelay_eq, ticksPerTooth]

theorem missedAt_eq (w : Wheel) (e : ToothEvent) :
    missedAt w e = fun r => r.state == .armed && decide (r.sortKey ≤ (e.spanBefore : Int) * (5760 / pitches w : Nat)) := by
  funext r
  simp [missedAt, ticksPerTooth]

/-- A missed request keeps its state at the tooth, with its key reduced. -/
theorem missed_map_atTooth (w : Wheel) (e : ToothEvent) (rs : List Request) :
    (rs.filter (missedAt w e)).map (fun r => r.atTooth w e) =
      (rs.filter (missedAt w e)).map
        (fun r => { r with sortKey := r.sortKey - (e.spanBefore : Int) * (5760 / pitches w : Nat) }) := by
  refine List.map_congr_left fun r hr => ?_
  have armed : r.state = .armed := by
    have := (List.mem_filter.mp hr).2
    simp only [missedAt, Bool.and_eq_true, beq_iff_eq] at this
    exact this.1
  rw [atTooth_eq, if_neg (by simp [armed]), if_pos armed]

/-! ### Several requests become DUE at one edge (R93, R95) -/

/-- Requests of the queue are recorded DUE one after the other, each a prediction miss. -/
theorem recordDue_eq (rs : List Request) (t : Time) (s : State) (h : rs.Subperm s.queue.requests) :
    rs.foldl (fun u r => countMiss (moveRequest r (r.madeDue t .edge) u)) s =
      { s with
        queue := { s.queue with
          requests := rs.foldl (fun q r => insertRequest (r.madeDue t .edge) (q.erase r)) s.queue.requests }
        notices := { s.notices with
          predictionMiss := rs.foldl (fun n _ => min 65535 (n + 1)) s.notices.predictionMiss } } := by
  induction rs generalizing s with
  | nil => rfl
  | cons r rs ih =>
    have moved := moveRequest_of_mem (r.madeDue t .edge) (h.subset List.mem_cons_self)
    have remain : rs.Subperm (s.queue.requests.erase r) := by
      simpa using h.erase r
    rw [List.foldl_cons, moved, ih]
    · rfl
    · exact (remain.trans (List.sublist_cons_self _ _).subperm).trans (insertRequest_perm _ _).symm.subperm

/-- Nothing is missed: nothing happens. -/
theorem becomeDueTogether_nil (t : Time) (s : State) : becomeDueTogether [] t s = s := by
  simp [becomeDueTogether]

theorem becomeDueTogether_eq {rs : List Request} (t : Time) {s : State} (h : rs.Subperm s.queue.requests) :
    becomeDueTogether rs t s =
      ((rs.foldl (fun q r => insertRequest (r.madeDue t .edge) (q.erase r)) s.queue.requests).filter
        (fun r => (rs.map (fun r => r.madeDue t .edge)).contains r)).foldl (fun u r => handOn r u)
        { s with
          queue := { s.queue with
            requests := rs.foldl (fun q r => insertRequest (r.madeDue t .edge) (q.erase r)) s.queue.requests }
          notices := { s.notices with
            predictionMiss := rs.foldl (fun n _ => min 65535 (n + 1)) s.notices.predictionMiss } } := by
  unfold becomeDueTogether
  rw [recordDue_eq rs t s h]

/-- Settles O35: with no ARMED request's start passed, none is missed. -/
theorem toothReducesKeysAndArms : Obligations.ToothReducesKeysAndArms := fun e s ahead _ => by
  have none : s.queue.requests.filter (missedAt s.tracker.wheel.wheel e) = [] := by
    rw [List.filter_eq_nil_iff, missedAt_eq]
    intro r hr missed
    simp only [Bool.and_eq_true, beq_iff_eq, decide_eq_true_eq] at missed
    exact absurd missed.2 (Int.not_le.mpr (ahead r hr missed.1))
  unfold queueTooth
  dsimp only
  rw [none, List.map_nil, becomeDueTogether_nil]
  simp only [atTooth_eq]
  rfl

/-! ### The hand-over (R97, R98, R110, R120) -/

theorem handOn_shadow {r : Request} {t : Time} (s : State) (due : r.dueTime = some t) (shadow : r.shadow = true) :
    handOn r s = { s with queue := { s.queue with
      requests := s.queue.requests.erase r
      captures := s.queue.captures.set r.cylinder (some
        { kind := r.kind, cycle := r.cycle, position := r.position, startAngle := r.startAngle
          scheduledStart := r.scheduledStart, dueTime := some t, dueCause := r.dueCause, duration := r.duration / 4 }) } } := by
  rw [← due]
  exact if_pos shadow

theorem handOn_driven {r : Request} {t : Time} {s : State} (mem : r ∈ s.queue.requests) (due : r.dueTime = some t)
    (driven : r.shadow = false) :
    let w := { r with lateExpiry := some (t + BitVec.ofNat 32 r.lateness) }
    let u := auction r.bank { s with queue := { s.queue with requests := insertRequest w (s.queue.requests.erase r) } }
    handOn r s = if r.lateness = 0 ∧ w ∈ u.queue.requests then
        noteDrop .late w { u with queue := { u.queue with requests := u.queue.requests.erase w } }
      else u := by
  refine (if_neg (by simp [driven])).trans ?_
  unfold handOver expireAtOnce
  simp only [moveRequest_of_mem _ mem, due]
  rfl

theorem startTimerExpires_of_found {id : RequestId} {r : Request} {t : Time} {s : State} (found : findRequest id s = some r)
    (armed : r.state = .armed) (start : r.scheduledStart = some t) (out : reached t s.now = true) :
    startTimerExpires id s = becomeDue r t .expiry s := by
  unfold startTimerExpires
  rw [found]
  simp only [armed, start, out, if_true]

/-- Settles O34: the start timer hands one request on; at an edge all the missed are recorded before the first is. -/
theorem requestBecomesDueAtItsStartOrTheEdge : Obligations.RequestBecomesDueAtItsStartOrTheEdge := by
  refine ⟨fun r t s running found armed start out => ?timer, fun e now s => ⟨?cam, ?tooth⟩,
    fun r t s mem due => ⟨handOn_shadow s due, handOn_driven mem due⟩⟩
  case timer =>
    have mem : r ∈ s.queue.requests := List.mem_of_find?_eq_some found
    show Host.Outcome.next (if s.running then startTimerExpires r.id s else s) = _
    rw [if_pos running, startTimerExpires_of_found found armed start (reached_iff.mpr out), becomeDue,
      moveRequest_of_mem _ mem]
    rfl
  case cam =>
    exact (becomeDueTogether_eq now List.filter_sublist.subperm).trans rfl
  case tooth =>
    have sub := ((List.filter_sublist (p := missedAt s.tracker.wheel.wheel e) (l := s.queue.requests)).map
      (fun r => r.atTooth s.tracker.wheel.wheel e)).subperm
    refine (becomeDueTogether_eq (s := s.setRequests _) e.time sub).trans ?_
    rw [missed_map_atTooth]
    simp only [missedAt_eq, atTooth_eq]
    rfl

end Sys2Proof.Machine

/-! PROOFS. The planner: positions named and taken up (R48, R88, R89), plans entering the queue (R90, R91), and the limp
requests of a cam edge (R92). -/

namespace Sys2Proof.Machine

open Sys2Proof.Safety

/-! ### Naming (R48) -/

/-- A plan point lies in the interval that ends at the edge, exclusive at its beginning (R48). -/
theorem planHere_iff {w : Wheel} {e : ToothEvent} {point : Nat} (angle : e.angle < 11520) (pointRange : point < 11520)
    (short : e.spanBefore * ticksPerTooth w < 11520) :
    planHere w e point = true ↔ ∃ k, k < e.spanBefore * ticksPerTooth w ∧ (point + k) % 11520 = e.angle := by
  unfold planHere inInterval angleDist cycleMod
  generalize e.spanBefore * ticksPerTooth w = length at short ⊢
  simp only [Bool.and_eq_true, decide_eq_true_eq]
  constructor
  · rintro ⟨after, upTo⟩
    exact ⟨length - (((point : Int) - ((((e.angle : Int) - (length : Int)) % 11520).toNat : Int)) % 11520).toNat,
      by omega, by omega⟩
  · rintro ⟨k, hk, edge⟩
    omega

theorem effectiveMode_ne_cut_iff {k : CylState} :
    effectiveMode k ≠ .cut ↔ k.masked = false ∧ k.flushPending = false ∧ k.hostMode ≠ .cut := by
  unfold effectiveMode
  cases k.masked <;> cases k.flushPending <;> simp

theorem planPosition_of_ring {e : ToothEvent} {i point : Nat} {entry : RingEntry} {s : State}
    (ring : s.table.ring[i]? = some entry) (points : s.table.planPoints[i]? = some point) :
    planPosition e i s =
      if planHere s.tracker.wheel.wheel e point = true ∧ (s.cyl entry.cylinder).cyclePlanned = false then
        takeUpAtTooth e (Fin.ofNat 8 i) entry (nameCylinder entry.cylinder s)
      else s := by
  unfold planPosition ringAt
  rw [ring, points]
  simp only [Option.map_some, Bool.and_eq_true, Bool.not_eq_true']
  rfl

theorem takeUpAtTooth_eq (e : ToothEvent) (p : Position) (entry : RingEntry) (s : State) :
    takeUpAtTooth e p entry s =
      if (s.fueling.state = .normal ∨ s.fueling.state = .aged) ∧ effectiveMode (s.cyl entry.cylinder) ≠ .cut then
        planFrom e { position := p, entry := entry, shadow := decide (effectiveMode (s.cyl entry.cylinder) = .shadow)
                     reference := e.angle } s
      else s := by
  unfold takeUpAtTooth
  simp only [Bool.and_eq_true, Bool.or_eq_true, beq_iff_eq, bne_iff_ne]
  rfl

section PlanFrom

variable {e : ToothEvent} {g : Planning} {s : State}

theorem planFrom_of_mismatch (bad : parityFailures ((s.store.bank s.store.active).plans.get g.entry.cylinder) ≠ 0) :
    planFrom e g s = parityFault g.entry.cylinder (bankCode s.store.active)
      (parityFailures ((s.store.bank s.store.active).plans.get g.entry.cylinder)) s := if_pos bad

theorem planFrom_of_limp_mismatch
    (clean : parityFailures ((s.store.bank s.store.active).plans.get g.entry.cylinder) = 0) (aged : s.fueling.state = .aged)
    (bad : parityGood s.store.limp = false) : planFrom e g s = parityFault g.entry.cylinder 2 1 s := by
  refine (if_neg (not_not.mpr clean)).trans ((if_pos aged).trans (if_pos ?_))
  rw [bad]
  rfl

theorem planFrom_of_clean
    (clean : parityFailures ((s.store.bank s.store.active).plans.get g.entry.cylinder) = 0)
    (limp : s.fueling.state = .aged → parityGood s.store.limp = true) :
    planFrom e g s =
      let built := buildEntries g (if s.fueling.state = .aged then
          (((s.store.bank s.store.active).plans.get g.entry.cylinder).filter (fun x => x.kind == .main)).map
            (agedEntry s.store.limp)
        else (s.store.bank s.store.active).plans.get g.entry.cylinder) s
      insertPlanned e built.2 built.1 := by
  refine (if_neg (not_not.mpr clean)).trans ?_
  by_cases aged : s.fueling.state = .aged
  · rw [if_pos aged, if_pos aged, if_neg (by simp [limp aged])]
  · rw [if_neg aged, if_neg aged]

end PlanFrom

/-- Settles O36: the interval of R48 as a distance; the planner's conditions one by one. -/
theorem positionIsNamedAndTakenUp : Obligations.PositionIsNamedAndTakenUp := by
  refine ⟨fun e i point entry s ring _ points angle pointRange short => ?named, fun e p entry s => ?taken⟩
  case named =>
    have here := planHere_iff angle pointRange short
    have named := planPosition_of_ring (e := e) ring points
    exact ⟨fun h => named.trans (if_pos (h.imp_left here.mpr)), fun h => named.trans (if_neg fun g => h (g.imp_left here.mp))⟩
  case taken =>
    intro c k plan bad takes
    have taken := takeUpAtTooth_eq e p entry s
    have uncut := effectiveMode_ne_cut_iff (k := s.cyl entry.cylinder)
    refine ⟨fun h => taken.trans (if_neg fun g => h (g.imp_right uncut.mp)),
      fun h mismatch => (taken.trans (if_pos (h.imp_right uncut.mpr))).trans ?_,
      fun h clean aged limp => (taken.trans (if_pos (h.imp_right uncut.mpr))).trans ?_⟩
    · exact (planFrom_of_mismatch (s := s) (g := ⟨p, entry, _, _⟩) (Nat.ne_of_gt mismatch)).trans rfl
    · exact (planFrom_of_limp_mismatch (s := s) (g := ⟨p, entry, _, _⟩) clean aged limp).trans rfl

/-! ### Building (R90) -/

theorem cycleMod_cast (x : Int) : (cycleMod x : Int) = x % 11520 := by
  unfold cycleMod
  omega

theorem angleDist_cast (a : Nat) (x : Int) : ((angleDist a (cycleMod x) : Nat) : Int) = (x % 11520 - a) % 11520 := by
  rw [angleDist, cycleMod_cast, cycleMod_cast]

/-- The clamp counter replaced. -/
def State.setClamp (s : State) (n : Nat) : State := { s with notices := { s.notices with clamp := n } }

theorem offer_clamp (u : NoticeUnit) (n : Notice) (k : Nat) :
    ({ u with clamp := k } : NoticeUnit).offer n = { u.offer n with clamp := k } := by
  unfold NoticeUnit.offer
  split
  · split <;> rfl
  · rfl

theorem record_clamp (u : NoticeUnit) (f : FirstFault) (k : Nat) :
    ({ u with clamp := k } : NoticeUnit).record f = { u.record f with clamp := k } := by
  unfold NoticeUnit.record
  cases faultPosition f.kind <;> rfl

/-- The clamp counter has no part in a drop's note. -/
theorem noteDrop_setClamp (q : DropReason) (r : Request) (s : State) (n : Nat) :
    noteDrop q r (s.setClamp n) = (noteDrop q r s).setClamp n := by
  have notices : (noteDrop q r (s.setClamp n)).notices = { (noteDrop q r s).notices with clamp := n } := by
    simp only [noteDrop, raise, raiseAt_notices]
    rw [← offer_clamp, ← record_clamp]
    rfl
  exact congrArg (fun u => { s with notices := u }) notices

theorem noteDrop_clamp (q : DropReason) (r : Request) (s : State) : (noteDrop q r s).notices.clamp = s.notices.clamp := by
  have unchanged := noteDrop_setClamp q r s s.notices.clamp
  have same : (noteDrop q r (s.setClamp s.notices.clamp)).notices.clamp = s.notices.clamp := by rw [unchanged]; rfl
  exact same

/-- The request an entry becomes, in the angles and keys of the spec (R90). -/
theorem planning_request_eq (g : Planning) (cycle : Byte) (limits : Limits) (kind : PulseKind) (start : Int) (tu : Nat) :
    g.request cycle limits kind start tu =
      { cylinder := g.entry.cylinder, position := g.position, bank := g.entry.bank, kind := kind, cycle := cycle
        startAngle := (((g.entry.tdc : Int) + start) % 11520).toNat
        sortKey := (((g.entry.tdc : Int) + start) % 11520 - g.reference) % 11520, shadow := g.shadow, duration := tu
        lateness := if kind = .main then limits.latenessMain else limits.latenessOther
        state := .planned, scheduledStart := none, dueTime := none, dueCause := none, lateExpiry := none } := by
  simp only [Planning.request, angleDist_cast]
  rfl

/-- The request a planning makes of an entry under a state's cycle number and limits, its duration at most the maximum
pulse (R90). -/
def Planning.requestOf (g : Planning) (s : State) (x : PlanEntry) : Request :=
  g.request s.tracker.cycle s.queue.limits x.kind x.start (min (4 * x.duration) s.queue.limits.maxPulse)

/-- One entry built: dropped when below the minimum pulse, else a request, clamped with a count (R90, step 3). -/
theorem buildEntry_eq (g : Planning) (s : State) (found : List Request) (x : PlanEntry) :
    buildEntry g (s, found) x =
      if 4 * x.duration < s.queue.limits.minPulse then (noteDrop .tooShort (g.requestOf s x) s, found)
      else
        (if s.queue.limits.maxPulse < 4 * x.duration then s.setClamp (min 65535 (s.notices.clamp + 1)) else s,
          found ++ [g.requestOf s x]) := by
  unfold buildEntry Planning.requestOf
  dsimp only
  split
  next => rfl
  next =>
    split
    next long =>
      rw [min_eq_right (Nat.le_of_lt long)]
      rfl
    next fits => rw [min_eq_left (Nat.le_of_not_lt fits)]

/-! ### The limp request (R92) -/

theorem camDelay_zero (period : Nat) : camDelay 0 period = 0 := by simp [camDelay]

theorem later_zero (t : Time) : later t 0 = t := by simp [later]

theorem admitLimp_full (t : Time) (period : Nat) (r : Request) {s : State} (full : 16 ≤ s.queue.requests.length) :
    admitLimp t period r s = noteDrop .queueFull r s := by
  unfold admitLimp
  dsimp only
  by_cases atOnce : r.sortKey.toNat = 0
  · rw [if_neg (not_not.mpr atOnce), if_pos full]
  · rw [if_pos atOnce, enterQueue_full full]
    rfl

/-- A limp candidate that finds room enters ARMED; without an offset it becomes DUE at once (R92). -/
theorem admitLimp_room (t : Time) (period : Nat) (r : Request) {s : State} (room : s.queue.requests.length < 16) :
    admitLimp t period r s =
      let armed := { r with
        state := .armed, scheduledStart := some (t + BitVec.ofNat 32 ((r.sortKey.toNat * period + 5760) / 11520)) }
      let due := { armed with state := .due, dueTime := some t, dueCause := some .immediate, lateExpiry := none }
      let entered (rs : List Request) : State := { s with queue := { s.queue with
        requests := rs, depthMark := max s.queue.depthMark (s.queue.requests.length + 1) } }
      if r.sortKey.toNat = 0 then
        handOn due (entered (insertRequest due ((insertRequest armed s.queue.requests).erase armed)))
      else entered (insertRequest armed s.queue.requests) := by
  unfold admitLimp
  dsimp only
  by_cases atOnce : r.sortKey.toNat = 0
  · have start : t + BitVec.ofNat 32 ((0 * period + 5760) / 11520) = t := (congrArg (later t) (camDelay_zero period)).trans (later_zero t)
    rw [if_neg (not_not.mpr atOnce), if_neg (Nat.not_le.mpr room), if_pos atOnce, atOnce, start, enterQueue_room room,
      becomeDue, moveRequest_of_mem _ (mem_insertRequest.mpr (.inl rfl))]
    rfl
  · rw [if_pos atOnce, if_neg atOnce, enterQueue_room room]
    rfl

theorem planLimp_of_mismatch (t : Time) (period : Nat) (g : Planning) {s : State} (bad : parityGood s.store.limp = false) :
    planLimp t period g s = parityFault g.entry.cylinder 2 1 s := if_pos (by rw [bad]; rfl)

theorem planLimp_of_good (t : Time) (period : Nat) (g : Planning) {s : State} (good : parityGood s.store.limp = true) :
    planLimp t period g s =
      if 4 * s.store.limp.duration < s.queue.limits.minPulse then noteDrop .tooShort (g.requestOf s s.store.limp) s
      else admitLimp t period (g.requestOf s s.store.limp)
        (if s.queue.limits.maxPulse < 4 * s.store.limp.duration then s.setClamp (min 65535 (s.notices.clamp + 1)) else s) := by
  refine (if_neg (by simp [good])).trans ?_
  rw [show buildEntries g [s.store.limp] s = buildEntry g (s, []) s.store.limp from rfl, buildEntry_eq]
  by_cases short : 4 * s.store.limp.duration < s.queue.limits.minPulse
  · rw [if_pos short, if_pos short]
    rfl
  · rw [if_neg short, if_neg short]
    rfl

theorem planLimpPosition_of_ring {t : Time} {period i : Nat} {entry : RingEntry} {s : State}
    (ring : s.table.ring[i]? = some entry) :
    planLimpPosition t period i s =
      if s.fueling.state = .limp ∧ effectiveMode (s.cyl entry.cylinder) ≠ .cut then
        planLimp t period { position := Fin.ofNat 8 i, entry := entry
                            shadow := decide (effectiveMode (s.cyl entry.cylinder) = .shadow)
                            reference := s.tracker.cam.gamma } (nameCylinder entry.cylinder s)
      else nameCylinder entry.cylinder s := by
  have mode : effectiveMode ((nameCylinder entry.cylinder s).cyl entry.cylinder) = effectiveMode (s.cyl entry.cylinder) := by
    rw [nameCylinder, State.cyl_setCyl_same]
    rfl
  unfold planLimpPosition ringAt
  rw [ring]
  simp only [Option.map_some, Bool.and_eq_true, beq_iff_eq, bne_iff_ne, mode]
  rfl

/-- Settles O38: naming, the conditions of the planner, and the admission of the one request. -/
theorem limpRequestIsTimedFromTheCamEdge : Obligations.LimpRequestIsTimedFromTheCamEdge := by
  intro t period i entry s ring _ c limp named angle d limits clamped r due entered
  have taken := planLimpPosition_of_ring (t := t) (period := period) ring
  refine ⟨fun h => taken.trans (if_neg ?_), fun inLimp uncut bad => (taken.trans (if_pos ⟨inLimp, uncut⟩)).trans
    ((planLimp_of_mismatch (s := named) t period _ bad).trans rfl), fun inLimp uncut good => (taken.trans (if_pos ⟨inLimp, uncut⟩)).trans
    ((planLimp_of_good (s := named) t period _ good).trans ?_)⟩
  · rintro ⟨inLimp, uncut⟩
    exact h.elim (fun h => h inLimp) uncut
  · generalize hg : ({ position := Fin.ofNat 8 i, entry := entry, shadow := _, reference := _ } : Planning) = g
    have key : (angle - s.tracker.cam.gamma) % 11520 = (d : Int) := by omega
    have request : g.requestOf named limp = { r with state := .planned, scheduledStart := none } := by
      rw [← hg, Planning.requestOf, planning_request_eq, key]
      rfl
    have queue : clamped.queue = s.queue := by
      dsimp only [clamped]
      split <;> rfl
    show (if 4 * limp.duration < limits.minPulse then noteDrop .tooShort (g.requestOf named limp) named
      else admitLimp t period (g.requestOf named limp) clamped) = _
    rw [request]
    by_cases short : 4 * limp.duration < limits.minPulse
    · rw [if_pos short, if_pos short] <;> rfl
    · rw [if_neg short, if_neg short]
      by_cases full : 16 ≤ s.queue.requests.length
      · rw [if_pos full, admitLimp_full t period _ (by rwa [queue])]
        rfl
      · rw [if_neg full, admitLimp_room t period _ (by rw [queue]; exact Nat.lt_of_not_le full), queue]
        rfl

end Sys2Proof.Machine

/-! PROOFS. A plan taken up enters the queue as its requests (R85, R86, R89 to R91, R104, R106). -/

namespace Sys2Proof.Machine

open Sys2Proof.Safety

/-! ### The place of a request in queue order (R86) -/

/-- A request enters ahead of the first request it comes before. -/
theorem insertRequest_split (r : Request) (rs : List Request) :
    ∃ front back, rs = front ++ back ∧ insertRequest r rs = front ++ r :: back ∧ (∀ x ∈ front, ¬ r.before x = true) ∧
      ∀ x, back.head? = some x → r.before x = true := by
  induction rs with
  | nil => exact ⟨[], [], rfl, rfl, by simp, by simp⟩
  | cons y ys ih =>
    by_cases ahead : r.before y = true
    · exact ⟨[], y :: ys, rfl, if_pos ahead, by simp, by simpa using ahead⟩
    · obtain ⟨front, back, whole, entered, behind, first⟩ := ih
      refine ⟨y :: front, back, by rw [whole]; rfl, ?_, List.forall_mem_cons.mpr ⟨ahead, behind⟩, first⟩
      rw [insertRequest, if_neg ahead, entered]
      rfl

theorem tieBefore_eq_true_iff {a b : Request} : tieBefore a b = true ↔
    kindClass a.kind < kindClass b.kind ∨ kindClass a.kind = kindClass b.kind ∧ a.position.val < b.position.val := by
  simp [tieBefore]

theorem queueGroup_eq_two_iff {st : RequestState} : queueGroup st = 2 ↔ st = .due := by
  cases st <;> simp [queueGroup]

/-- The comparison of R86, group by group. -/
theorem before_eq_true_iff {a b : Request} : a.before b = true ↔
    queueGroup a.state < queueGroup b.state ∨
    (a.state = .due ∧ b.state = .due ∧ (2 ^ 31 ≤ (a.dueTime.getD 0 - b.dueTime.getD 0).toNat ∨
      a.dueTime.getD 0 = b.dueTime.getD 0 ∧ tieBefore a b = true)) ∨
    (queueGroup a.state = 3 ∧ queueGroup b.state = 3 ∧
      (a.sortKey < b.sortKey ∨ a.sortKey = b.sortKey ∧ tieBefore a b = true)) := by
  unfold Request.before
  rw [← queueGroup_eq_two_iff, ← queueGroup_eq_two_iff]
  rcases queueGroup_cases a.state with h | h | h <;> rcases queueGroup_cases b.state with g | g | g
  case inr.inl.inr.inl =>
    have earlier_iff : earlier (a.dueTime.getD 0) (b.dueTime.getD 0) = true ↔
        2 ^ 31 ≤ (a.dueTime.getD 0 - b.dueTime.getD 0).toNat := by
      rw [earlier, Bool.not_eq_true', Bool.eq_false_iff, ne_eq, reached_iff, Nat.not_lt]
    generalize a.dueTime.getD 0 = t at earlier_iff ⊢
    generalize b.dueTime.getD 0 = u at earlier_iff ⊢
    rw [← earlier_iff]
    simp [h, g]
  all_goals simp [h, g]

/-! ### Building (R90) -/

/-- Entries built one after the other: those below the minimum pulse are dropped, the others found, each clamp
counted. -/
theorem buildEntries_fold (g : Planning) (s : State) (es : List PlanEntry) (u : State) (found : List Request)
    (limits : u.queue.limits = s.queue.limits) (cycle : u.tracker.cycle = s.tracker.cycle) :
    es.foldl (buildEntry g) (u, found) =
      let kept := es.filter (fun x => decide (s.queue.limits.minPulse ≤ 4 * x.duration))
      (((es.filter (fun x => decide (4 * x.duration < s.queue.limits.minPulse))).foldl
          (fun v x => noteDrop .tooShort (g.requestOf s x) v) u).setClamp
        ((kept.filter (fun x => decide (s.queue.limits.maxPulse < 4 * x.duration))).foldl
          (fun n _ => min 65535 (n + 1)) u.notices.clamp), found ++ kept.map (g.requestOf s)) := by
  induction es generalizing u found with
  | nil =>
    exact Prod.ext rfl (List.append_nil found).symm
  | cons x es ih =>
    have request : g.requestOf u x = g.requestOf s x := by rw [Planning.requestOf, limits, cycle]; rfl
    rw [List.foldl_cons, buildEntry_eq, request, limits]
    by_cases short : 4 * x.duration < s.queue.limits.minPulse
    · rw [if_pos short, ih (noteDrop .tooShort (g.requestOf s x) u) found limits cycle, noteDrop_clamp]
      simp [short, Nat.not_le.mpr short]
    · rw [if_neg short]
      have kept := Nat.le_of_not_lt short
      by_cases long : s.queue.limits.maxPulse < 4 * x.duration
      · have clamps (l : List PlanEntry) (v : State) (n : Nat) :
            l.foldl (fun v x => noteDrop .tooShort (g.requestOf s x) v) (v.setClamp n) =
              (l.foldl (fun v x => noteDrop .tooShort (g.requestOf s x) v) v).setClamp n := by
          induction l generalizing v with
          | nil => rfl
          | cons y l ih => rw [List.foldl_cons, noteDrop_setClamp, ih, List.foldl_cons]
        rw [if_pos long, ih (u.setClamp (min 65535 (u.notices.clamp + 1))) _ limits cycle]
        simp only [clamps]
        simp [short, kept, long, State.setClamp]
      · rw [if_neg long, ih _ _ limits cycle]
        simp [short, kept, long]

/-! ### Inserting (R91) -/

/-- Candidates that all find room enter one after the other, and the depth mark follows the depth (R104, R106). -/
theorem enterAll_eq (rs : List Request) (s : State) (room : s.queue.requests.length + rs.length ≤ 16) :
    rs.foldl (fun u r => enterQueue r u) s =
      { s with queue := { s.queue with
        requests := rs.foldl (fun q r => insertRequest r q) s.queue.requests
        depthMark := if rs = [] then s.queue.depthMark
          else max s.queue.depthMark (s.queue.requests.length + rs.length) } } := by
  induction rs generalizing s with
  | nil => rfl
  | cons r rs ih =>
    rw [List.length_cons] at room
    have mark : (if rs = [] then max s.queue.depthMark (s.queue.requests.length + 1)
          else max (max s.queue.depthMark (s.queue.requests.length + 1)) (s.queue.requests.length + 1 + rs.length)) =
        max s.queue.depthMark (s.queue.requests.length + (rs.length + 1)) := by
      split
      next empty => rw [empty]; rfl
      next => omega
    rw [List.foldl_cons, enterQueue_room (by omega), ih _ (by simp only [insertRequest_length]; omega)]
    simp only [insertRequest_length, mark, List.foldl_cons, reduceCtorEq, if_false, List.length_cons]

theorem insertAll_length (rs q : List Request) :
    (rs.foldl (fun q r => insertRequest r q) q).length = q.length + rs.length := by
  induction rs generalizing q with
  | nil => rfl
  | cons r rs ih => rw [List.foldl_cons, ih, insertRequest_length, List.length_cons]; omega

/-- A candidate placed at a plan tooth: ARMED when its start lies within the interval that follows, else PLANNED
(R91). -/
def Request.placedAt (r : Request) (w : Wheel) (e : ToothEvent) : Request :=
  if r.sortKey ≤ (e.spanNext : Int) * (5760 / pitches w : Nat) then
    { r with
      state := .armed
      scheduledStart := some (e.time + BitVec.ofNat 32
        (if r.sortKey.toNat = 0 then 0 else (r.sortKey.toNat * e.predicted + 5760 / pitches w / 2) / (5760 / pitches w))) }
  else r

theorem placedAt_kind (r : Request) (w : Wheel) (e : ToothEvent) : (r.placedAt w e).kind = r.kind := by
  unfold Request.placedAt
  split <;> rfl

theorem inClassOrder_map {f : Request → Request} (kind : ∀ r, (f r).kind = r.kind) (rs : List Request) :
    (inClassOrder rs).map f = inClassOrder (rs.map f) := by
  simp only [inClassOrder, List.map_flatMap, List.filter_map, Function.comp_def, kind]

theorem insertPlanned_eq (e : ToothEvent) (rs : List Request) (s : State) :
    insertPlanned e rs s =
      (inClassOrder (rs.map (fun r => r.placedAt s.tracker.wheel.wheel e))).foldl (fun u r => enterQueue r u) s := by
  rw [← inClassOrder_map (fun r => placedAt_kind r _ e), List.foldl_map]
  unfold insertPlanned
  dsimp only
  refine List.foldl_ext _ _ _ fun u r _ => congrArg (enterQueue · u) ?_
  unfold Request.placedAt
  simp only [Int.natCast_mul]
  rfl

theorem inClassOrder_length (rs : List Request) : (inClassOrder rs).length = rs.length := (inClassOrder_perm rs).length_eq

theorem inClassOrder_eq_nil_iff {rs : List Request} : inClassOrder rs = [] ↔ rs = [] := by
  rw [← List.length_eq_zero_iff, inClassOrder_length, List.length_eq_zero_iff]

/-- A plan built and inserted, the queue having room for all of it (R90, R91, R106). -/
theorem build_insert_eq (e : ToothEvent) (g : Planning) (es : List PlanEntry) (s : State)
    (room : s.queue.requests.length + (es.filter (fun x => decide (s.queue.limits.minPulse ≤ 4 * x.duration))).length ≤ 16) :
    insertPlanned e (buildEntries g es s).2 (buildEntries g es s).1 =
      let kept := es.filter (fun x => decide (s.queue.limits.minPulse ≤ 4 * x.duration))
      let requests := (inClassOrder (kept.map (fun x => (g.requestOf s x).placedAt s.tracker.wheel.wheel e))).foldl
        (fun q r => insertRequest r q) s.queue.requests
      let short := (es.filter (fun x => decide (4 * x.duration < s.queue.limits.minPulse))).foldl
        (fun v x => noteDrop .tooShort (g.requestOf s x) v) s
      { s with
        notices := { short.notices with
          clamp := (kept.filter (fun x => decide (s.queue.limits.maxPulse < 4 * x.duration))).foldl
            (fun n _ => min 65535 (n + 1)) s.notices.clamp }
        queue := { s.queue with
          requests := requests
          depthMark := if kept = [] then s.queue.depthMark else max s.queue.depthMark requests.length } } := by
  have frame (l : List PlanEntry) (v : State) : l.foldl (fun v x => noteDrop .tooShort (g.requestOf s x) v) v =
      { v with notices := (l.foldl (fun v x => noteDrop .tooShort (g.requestOf s x) v) v).notices } := by
    induction l generalizing v with
    | nil => rfl
    | cons x l ih => exact ih (noteDrop .tooShort (g.requestOf s x) v)
  have built := buildEntries_fold g s es s [] rfl rfl
  rw [← buildEntries] at built
  rw [built]
  dsimp only
  rw [List.nil_append, frame, insertPlanned_eq, enterAll_eq]
  · simp only [State.setClamp, List.map_map, Function.comp_def, inClassOrder_length, List.length_map,
      inClassOrder_eq_nil_iff, List.map_eq_nil_iff, insertAll_length]
  · simpa [State.setClamp, inClassOrder_length] using room

/-- The request that stands for an entry at a plan tooth (R90, R91). -/
theorem requestOf_placedAt (g : Planning) (s : State) (x : PlanEntry) (w : Wheel) (e : ToothEvent) :
    (g.requestOf s x).placedAt w e =
      let angle := ((g.entry.tdc : Int) + x.start) % 11520
      let key := (angle - g.reference) % 11520
      let tpt := 5760 / pitches w
      { cylinder := g.entry.cylinder, position := g.position, bank := g.entry.bank, kind := x.kind, cycle := s.tracker.cycle
        startAngle := angle.toNat, sortKey := key, shadow := g.shadow
        duration := min (4 * x.duration) s.queue.limits.maxPulse
        lateness := if x.kind = .main then s.queue.limits.latenessMain else s.queue.limits.latenessOther
        state := if key ≤ (e.spanNext : Int) * tpt then .armed else .planned
        scheduledStart := if key ≤ (e.spanNext : Int) * tpt then
          some (e.time + BitVec.ofNat 32 (if key = 0 then 0 else (key.toNat * e.predicted + tpt / 2) / tpt)) else none
        dueTime := none, dueCause := none, lateExpiry := none } := by
  rw [Planning.requestOf, planning_request_eq]
  unfold Request.placedAt
  dsimp only
  have atTooth : ((((g.entry.tdc : Int) + x.start) % 11520 - g.reference) % 11520).toNat = 0 ↔
      (((g.entry.tdc : Int) + x.start) % 11520 - g.reference) % 11520 = 0 := by omega
  split
  next => simp only [atTooth]
  next => rfl

theorem parityFailures_eq_zero {plan : List PlanEntry} (h : ∀ x ∈ plan, parityGood x = true) : parityFailures plan = 0 := by
  rw [parityFailures, List.length_eq_zero_iff, List.filter_eq_nil_iff]
  intro x hx
  simp [h x hx]

/-- Settles O37: the entries are built in stored order and inserted in class order, and a request enters ahead of the
first it comes before. -/
theorem planEntersTheQueueAsRequests : Obligations.PlanEntersTheQueueAsRequests := by
  refine ⟨fun e p entry s => ?taken, fun r s => ⟨fun full => ⟨enterQueue_full full, rfl⟩, fun room => enterQueue_room room⟩,
    fun r rs => ?place⟩
  case taken =>
    intro c plan built limits kept tpt state uncut clean room request requests short clamps
    have inState : (s.fueling.state = .normal ∨ s.fueling.state = .aged) ∧ effectiveMode (s.cyl entry.cylinder) ≠ .cut :=
      ⟨state.imp_right And.left, uncut⟩
    have limp : s.fueling.state = .aged → parityGood s.store.limp = true := fun aged => by
      rcases state with normal | ⟨-, good⟩
      · rw [aged] at normal
        cases normal
      · exact good
    refine (takeUpAtTooth_eq e p entry s).trans ((if_pos inState).trans ?_)
    refine (planFrom_of_clean (parityFailures_eq_zero clean) limp).trans ((build_insert_eq e _ built s room).trans ?_)
    simp only [requestOf_placedAt]
    rfl
  case place =>
    obtain ⟨front, back, whole, entered, behind, first⟩ := insertRequest_split r rs
    simp only [before_eq_true_iff, tieBefore_eq_true_iff] at behind first
    exact ⟨front, back, whole, entered, behind, first⟩

end Sys2Proof.Machine

/-! PROOFS. The arithmetic of predictions and delays (R32, R34, R42), and the crank edges that do not count a tooth:
glitches, first edges, edges in SEEKING, gap errors (R7 to R12), and the stalls (R21, R24). -/

namespace Sys2Proof.Machine

open Sys2Proof.Safety

/-! ### Predictions and delays -/

theorem correction_rising {a q p : Nat} (h : q ≤ p) : correction a q p = ((p - q) * a / 4 : Nat) := by
  obtain ⟨d, rfl⟩ := Nat.exists_eq_add_of_le h
  have change : ((q + d : Nat) : Int) - (q : Int) = (d : Int) := by omega
  rw [correction, change, Nat.add_sub_cancel_left]
  exact (Int.ofNat_tdiv (d * a) 4).symm

theorem correction_falling {a q p : Nat} (h : p ≤ q) : correction a q p = -(((q - p) * a / 4 : Nat) : Int) := by
  obtain ⟨d, rfl⟩ := Nat.exists_eq_add_of_le h
  have change : (p : Int) - ((p + d : Nat) : Int) = -(d : Int) := by omega
  rw [correction, change, Nat.add_sub_cancel_left, Int.neg_mul, Int.neg_tdiv]
  exact congrArg Neg.neg (Int.ofNat_tdiv (d * a) 4).symm

/-- The division of a start delay, to the nearest tu, halves up (R34). -/
theorem startDelay_eq_iff (w : Wheel) (d p k : Nat) : startDelay w d p = k ↔
    2 * k * ticksPerTooth w ≤ 2 * d * p + ticksPerTooth w ∧ 2 * d * p + ticksPerTooth w < 2 * (k + 1) * ticksPerTooth w := by
  rw [startDelay_eq, Nat.mul_assoc 2 d p]
  generalize d * p = n
  cases w <;> simp only [ticksPerTooth, pitches] <;> omega

theorem startDelay_of_gap {w : Wheel} {d p : Nat} (hd : d ≤ (missing w + 1) * ticksPerTooth w) (hp : p < 8000000) :
    startDelay w d p < 2 ^ 25 := by
  have product : d * p ≤ (missing w + 1) * ticksPerTooth w * 7999999 := Nat.mul_le_mul hd (by omega)
  rw [startDelay_eq]
  generalize d * p = n at product
  revert product
  cases w <;> simp only [ticksPerTooth, pitches, missing] <;> omega

/-- Settles O41: the correction has the sign of the change, and each delay is a division to the nearest. -/
theorem predictionAndDelaysRoundAsStated : Obligations.PredictionAndDelaysRoundAsStated := by
  refine ⟨fun a p q ha hp hq => ⟨rfl, ?still, fun rising => ?rising, fun falling => ?falling⟩,
    fun w d p c k => ⟨fun _ => startDelay_eq_iff w d p k, rfl, startDelay_of_gap, ?round, fun hd hc => ?bound, fun hd hc => ?below⟩⟩
  case still =>
    have none : correction 0 q p = 0 := by simp [correction]
    simp only [predict, none]
    omega
  case rising =>
    have change : (p - q) * a ≤ (p - q) * 4 := Nat.mul_le_mul_left _ ha
    simp only [predict, correction_rising rising]
    generalize (p - q) * a = n at change ⊢
    omega
  case falling =>
    simp only [predict, correction_falling falling.le]
    generalize (q - p) * a = n
    omega
  case round =>
    rw [camDelay, Nat.mul_assoc]
    generalize d * c = n
    omega
  all_goals
    have product : d * c ≤ 11519 * c := Nat.mul_le_mul_right c hd
    rw [camDelay]
    generalize d * c = n at product
    omega

/-! ### The glitch filter and the first edges (R7 to R9) -/

theorem exec_crankActiveEdge {s : State} (running : s.running = true) :
    exec .crankActiveEdge s = .next (activeEdge s.control.timebase s) := congrArg Host.Outcome.next (if_pos running)

/-- The pulse an accepted active edge begins (R25; log 10). -/
def pulseAt (s : State) : Option Time := if s.tracker.wheel.sensor = .directional then some s.control.timebase else none

/-- The state in which an accepted active edge is handled: its pulse has begun (R25). -/
def pulsed (s : State) : State := { s with tracker := { s.tracker with pulseStart := pulseAt s } }

theorem beginPulse_eq (s : State) : beginPulse true s.control.timebase s = pulsed s := by
  unfold beginPulse pulsed pulseAt
  simp only [Bool.true_and, beq_iff_eq]
  rfl

theorem activeEdge_of_accepted {s : State}
    (h : filterAccepts (filterBasis s.tracker).1 (filterBasis s.tracker).2 s.control.timebase = true) :
    activeEdge s.control.timebase s = acceptedEdge s.control.timebase (pulsed s) := by
  rw [← beginPulse_eq]
  exact if_pos h

theorem filterAccepts_some {t : Time} {predicted : Option Nat} {now : Time} :
    filterAccepts (some t) predicted now = true ↔
      (match predicted with | some p => p / 4 | none => 200) ≤ (now - t).toNat :=
  decide_eq_true_iff

/-- Outside STOPPED and CAM_ONLY the filter is the tracker's own (R7). -/
theorem filterBasis_of_crank {t : Tracker} (stopped : t.sync ≠ .stopped) (camOnly : t.sync ≠ .camOnly) :
    filterBasis t = (t.lastEdge.map (·.time), t.history.predicted) := by
  unfold filterBasis
  cases sync : t.sync with
  | stopped => exact absurd sync stopped
  | camOnly => exact absurd sync camOnly
  | _ => rfl

theorem acceptedEdge_of_stopped {now : Time} {s : State} (stopped : s.tracker.sync = .stopped) :
    acceptedEdge now (pulsed s) = startSeeking now (pulsed s) := by
  unfold acceptedEdge
  rw [show (pulsed s).tracker.sync = .stopped from stopped]

theorem acceptedEdge_of_seeking {now : Time} {s : State} (seeking : s.tracker.sync = .seeking) :
    acceptedEdge now (pulsed s) = seekingEdge now (pulsed s) := by
  unfold acceptedEdge
  rw [show (pulsed s).tracker.sync = .seeking from seeking]

theorem acceptedEdge_of_camOnly {now : Time} {s : State} (camOnly : s.tracker.sync = .camOnly) :
    acceptedEdge now (pulsed s) = backgroundEdge now (pulsed s) := by
  unfold acceptedEdge
  rw [show (pulsed s).tracker.sync = .camOnly from camOnly]

theorem acceptedEdge_of_counting {now : Time} {s : State}
    (counting : s.tracker.sync = .crankSync ∨ s.tracker.sync = .fullSync ∨ s.tracker.sync = .phaseHeld) :
    acceptedEdge now (pulsed s) = countedEdge now (pulsed s) := by
  unfold acceptedEdge
  have sync : (pulsed s).tracker.sync = s.tracker.sync := rfl
  rcases counting with h | h | h <;> rw [sync, h]

/-- An edge that the tracker's own filter accepts is handled by sync state (R7). -/
theorem exec_crankActiveEdge_of_accepted {last : Time} {α : Option Nat} {s : State} (running : s.running = true)
    (stopped : s.tracker.sync ≠ .stopped) (camOnly : s.tracker.sync ≠ .camOnly) (edge : s.tracker.lastEdge = some ⟨last, α⟩)
    (enough : (match s.tracker.history.predicted with | some p => p / 4 | none => 200) ≤ (s.control.timebase - last).toNat) :
    exec .crankActiveEdge s = .next (acceptedEdge s.control.timebase (pulsed s)) := by
  rw [exec_crankActiveEdge running, activeEdge_of_accepted]
  rw [filterBasis_of_crank stopped camOnly, edge]
  exact filterAccepts_some.mpr enough

theorem seekingEdge_of_no_edge {now : Time} {s : State} (first : s.tracker.lastEdge = none) :
    seekingEdge now (pulsed s) = (pulsed s).setTracker ({ (pulsed s).tracker with lastEdge := some ⟨now, none⟩ }.stallFrom now) := by
  unfold seekingEdge
  simp only [show (pulsed s).tracker.lastEdge = none from first]

/-- Settles O39: the filter's last edge and prediction by sync state. -/
theorem glitchesAndFirstEdges : Obligations.GlitchesAndFirstEdges := by
  refine ⟨fun last predicted s running source early => ?glitch, fun s running => ⟨fun stopped => ?stopped, fun seeking first => ?first⟩⟩
  case glitch =>
    have basis : filterBasis s.tracker = (some last, predicted) := by
      rcases source with ⟨camOnly, edge, prediction⟩ | ⟨camOnly, stopped, ⟨α, edge⟩, prediction⟩
      · rw [← edge, ← prediction, filterBasis, camOnly]
      · rw [filterBasis_of_crank stopped camOnly, edge, prediction]
        rfl
    have rejected : ¬ filterAccepts (filterBasis s.tracker).1 (filterBasis s.tracker).2 s.control.timebase = true := by
      rw [basis, filterAccepts_some]
      exact Nat.not_le.mpr early
    refine (exec_crankActiveEdge running).trans (congrArg _ ((if_neg rejected).trans ?_))
    rfl
  case stopped =>
    have basis : filterBasis s.tracker = (none, none) := by rw [filterBasis, stopped]
    rw [exec_crankActiveEdge running, activeEdge_of_accepted (by rw [basis]; rfl), acceptedEdge_of_stopped stopped]
    rfl
  case first =>
    have basis := filterBasis_of_crank (t := s.tracker) (by simp [seeking]) (by simp [seeking])
    rw [exec_crankActiveEdge running, activeEdge_of_accepted (by rw [basis, first]; rfl), acceptedEdge_of_seeking seeking]
    exact congrArg _ ((seekingEdge_of_no_edge first).trans rfl)

/-! ### Edges in SEEKING, and gap errors (R8, R10, R12) -/

/-- The gap test against the period before, when there is one (R31). -/
theorem gapTest_eq (w : Wheel) (raw : Nat) (before : Option Nat) :
    gapTest w raw before = match before with
      | some p => decide (2 * raw ≥ (2 * missing w + 1) * p ∧ raw ≤ (missing w + 2) * p)
      | none => false := by
  unfold gapTest
  cases before with
  | none => rfl
  | some p => exact (Bool.decide_and _ _).symm

theorem seekingEdge_of_edge {now last : Time} {α : Option Nat} {s : State} (edge : s.tracker.lastEdge = some ⟨last, α⟩) :
    seekingEdge now s =
      if gapTest s.tracker.wheel.wheel (elapsed last now) s.tracker.history.current then
        handSync (handSpeed (s.setTracker (({ s.tracker with
          sync := .crankSync, toothIndex := some 0, revolution := some .a
          lastEdge := some ⟨now, some 0⟩ }.recorded (elapsed last now) (missing s.tracker.wheel.wheel + 1)).stallFrom now)))
      else handSpeed (s.setTracker (({ s.tracker with lastEdge := some ⟨now, none⟩ }.recorded (elapsed last now) 1).stallFrom now)) := by
  unfold seekingEdge
  simp only [edge]

/-- An edge of CRANK_SYNC, FULL_SYNC or PHASE_HELD, with the edge and the tooth before it (R11, R12). -/
theorem countedEdge_eq {now last : Time} {α₀ : Option Nat} {i : Nat} {s : State}
    (edge : s.tracker.lastEdge = some ⟨last, α₀⟩) (tooth : s.tracker.toothIndex = some i) :
    countedEdge now s =
      let w := s.tracker.wheel.wheel
      let raw := elapsed last now
      let gap := decide (i = lastTooth w)
      if gapTest w raw s.tracker.history.current = gap then
        let j := if gap then 0 else i + 1
        let rev := if gap then otherRev (s.tracker.revolution.getD .a) else s.tracker.revolution.getD .a
        let span := if gap then missing w + 1 else 1
        let α := revBase rev + j * ticksPerTooth w
        let u := s.setTracker (({ s.tracker with
          toothIndex := some j, revolution := some rev, lastEdge := some ⟨now, some α⟩ }.recorded raw span).stallFrom now)
        if s.tracker.sync = .crankSync then handSpeed u else publishEdge now (α₀.getD 0) α j span u
      else gapErrorAt now s := by
  unfold countedEdge
  simp only [edge, tooth, Option.getD_some]

/-- Settles O40: the gap test decides an edge in SEEKING, and one that contradicts the tooth count is a gap error. -/
theorem seekingFindsTheGapAndAGapErrorReturns : Obligations.SeekingFindsTheGapAndAGapErrorReturns := by
  constructor
  case left =>
    intro last α s running seeking edge raw enough w h gap p t
    have gap_eq : gap = gapTest w raw h.current := (gapTest_eq w raw h.current).symm
    rw [exec_crankActiveEdge_of_accepted running (by simp [seeking]) (by simp [seeking]) edge enough,
      acceptedEdge_of_seeking seeking]
    refine congrArg _ ((seekingEdge_of_edge (s := pulsed s) edge).trans ?_)
    clear_value gap
    cases gap with
    | true => exact (if_pos gap_eq.symm).trans rfl
    | false =>
      refine (if_neg (by rw [Bool.not_eq_true]; exact gap_eq.symm)).trans ?_
      rfl
  case right =>
    intro last α i s running counting edge tooth raw w h enough error u
    rw [exec_crankActiveEdge_of_accepted running (by rcases counting with h | h | h <;> simp [h])
      (by rcases counting with h | h | h <;> simp [h]) edge enough, acceptedEdge_of_counting counting]
    exact congrArg _ ((countedEdge_eq (s := pulsed s) edge tooth).trans ((if_neg error).trans rfl))

/-! ### Stalls (R21, R24) -/

theorem exec_crankStall {timer : Time} {s : State} (running : s.running = true) (runs : s.tracker.crankTimer = some timer)
    (out : s.tracker.wheel.stallTime ≤ (s.control.timebase - timer).toNat) :
    exec .crankStall s = .next (crankStalls s.control.timebase s) :=
  congrArg Host.Outcome.next (if_pos (Bool.and_eq_true_iff.mpr ⟨running, stallDue_iff.mpr ⟨timer, runs, out⟩⟩))

theorem exec_camStall {timer : Time} {s : State} (running : s.running = true) (runs : s.tracker.camTimer = some timer)
    (out : s.tracker.cam.stallTime ≤ (s.control.timebase - timer).toNat) : exec .camStall s = .next (camStalls s) :=
  congrArg Host.Outcome.next (if_pos (Bool.and_eq_true_iff.mpr ⟨running, stallDue_iff.mpr ⟨timer, runs, out⟩⟩))

theorem stallInSync_of_none {now : Time} {s : State} (h : freshCam s.tracker now = none) :
    stallInSync now s = enterStopped (loseSync 1 s) := by
  unfold stallInSync
  simp only [h]

theorem stallInSync_of_some {now : Time} {c : Nat} {s : State} (h : freshCam s.tracker now = some c) :
    stallInSync now s = enterCamOnly c s := by
  unfold stallInSync
  simp only [h]

/-- Settles O45: by sync state; the cam period is fresh or not. -/
theorem stallsStopOrGoCamOnly : Obligations.StallsStopOrGoCamOnly := by
  refine ⟨fun timer s running runs out => ?crank, fun timer s running runs out => ?cam⟩
  case crank =>
    intro stops fresh
    rw [exec_crankStall running runs out, crankStalls]
    have fresh_eq : freshCam s.tracker s.control.timebase = fresh := rfl
    clear_value fresh
    cases sync : s.tracker.sync with
    | seeking | crankSync | stopped | camOnly => rfl
    | fullSync | phaseHeld =>
      cases fresh with
      | none => exact congrArg _ ((stallInSync_of_none fresh_eq).trans rfl)
      | some c => exact congrArg _ ((stallInSync_of_some fresh_eq).trans rfl)
  case cam =>
    rw [exec_camStall running runs out, camStalls]
    split <;> rfl

end Sys2Proof.Machine

/-! PROOFS. The crank edges that count a tooth: in CRANK_SYNC, FULL_SYNC and PHASE_HELD (R11, R13, R14, R19), and the
background seek of CAM_ONLY (R23). -/

namespace Sys2Proof.Machine

open Sys2Proof.Safety

/-! ### The window close (R19) -/

theorem closeWindow_eq (t : Tracker) :
    t.closeWindow = { t with
      sync := if (t.camHistory.windowFlag = false ∧ t.sync = .fullSync) ∧ 1 ≤ t.camHistory.missingRun then .phaseHeld else t.sync
      camHistory := { t.camHistory with
        windowFlag := false
        missingRun := if t.camHistory.windowFlag = false ∧ t.sync = .fullSync then
          (if 1 ≤ t.camHistory.missingRun then 2 else t.camHistory.missingRun + 1) else t.camHistory.missingRun } } := by
  unfold Tracker.closeWindow
  cases flag : t.camHistory.windowFlag with
  | true => simp
  | false =>
    by_cases sync : t.sync = .fullSync
    · by_cases second : 1 ≤ t.camHistory.missingRun <;> simp [sync, second, flag]
    · simp [sync, ← flag]

theorem closeWindow_sync_iff (t : Tracker) : t.closeWindow.sync = t.sync ↔
    ¬ ((t.camHistory.windowFlag = false ∧ t.sync = .fullSync) ∧ 1 ≤ t.camHistory.missingRun) := by
  rw [closeWindow_eq]
  dsimp only
  split
  next h => simp [h]
  next h => simp [h]

theorem noteCamMissing_fuelOnly (s : State) : FuelOnly s (noteCamMissing s) :=
  (FuelOnly.of_quiet (raise_quiet _ _ _ _ s)).trans (handSync_fuelOnly _)

/-! ### The hand-overs of a tooth (R13, R14) -/

/-- The angle of tooth 0 of revolution A is 0, and of no other (R14). -/
theorem toothAngle_eq_zero_iff (w : Wheel) (rev : Revolution) (j : Nat) :
    revBase rev + j * ticksPerTooth w = 0 ↔ j = 0 ∧ rev = .a := by
  cases w <;> cases rev <;> simp [revBase, ticksPerTooth, pitches]

/-- What a tooth of FULL_SYNC or PHASE_HELD hands over before its tooth event: the speed, and the origin event at angle
0. -/
def handedOver (α : Nat) (s : State) : State := if α = 0 then originEvent (handSpeed s) else handSpeed s

theorem handedOver_tracker (α : Nat) (s : State) : (handedOver α s).tracker =
    { s.tracker with cycle := if α = 0 then s.tracker.cycle + 1 else s.tracker.cycle } := by
  unfold handedOver
  split
  · rw [(originEvent_frame _).1, (handSpeed_fuelOnly s).tracker]
  · exact (handSpeed_fuelOnly s).tracker

theorem publishTooth_eq (now : Time) (α index span : Nat) (s : State) :
    publishTooth now α index span s =
      toothEvent { time := now, angle := α, spanBefore := span, spanNext := spanAfter s.tracker.wheel.wheel index
                   predicted := s.tracker.history.predicted.getD 0 } (handedOver α s) := by
  have tracker := handedOver_tracker α s
  have wheel : (handedOver α s).tracker.wheel = s.tracker.wheel := by rw [tracker]
  have history : (handedOver α s).tracker.history = s.tracker.history := by rw [tracker]
  rw [← wheel, ← history]
  rfl

/-- The tracker, the link, mode control, the pins and the commands that wait, but for the cycle number an origin event
advances. -/
structure Advances (origin : Prop) [Decidable origin] (s t : State) : Prop where
  tracker : t.tracker = { s.tracker with cycle := if origin then s.tracker.cycle + 1 else s.tracker.cycle }
  link : t.link = s.link
  pins : t.pins = s.pins
  control : t.control = s.control
  pending : t.pending = s.pending

section Advances

variable {origin : Prop} [Decidable origin] {s t u : State}

theorem Advances.then_fuelOnly (h : Advances origin s t) (g : FuelOnly t u) : Advances origin s u :=
  ⟨g.tracker.trans h.tracker, g.link.trans h.link, g.pins.trans h.pins, g.control.trans h.control,
   g.pending.trans h.pending⟩

theorem Advances.after_fuelOnly (h : Advances origin t u) (g : FuelOnly s t) : Advances origin s u :=
  ⟨by rw [h.tracker, g.tracker], h.link.trans g.link, h.pins.trans g.pins, h.control.trans g.control,
   h.pending.trans g.pending⟩

theorem Advances.of_fuelOnly (g : FuelOnly s t) (none : ¬ origin) : Advances origin s t :=
  ⟨by rw [g.tracker, if_neg none], g.link, g.pins, g.control, g.pending⟩

end Advances

theorem handedOver_advances (α : Nat) (s : State) : Advances (α = 0) s (handedOver α s) := by
  have speed := handSpeed_fuelOnly s
  by_cases origin : α = 0
  · obtain ⟨tracker, link, control, pins, pending⟩ := originEvent_frame (handSpeed s)
    have handed : handedOver α s = originEvent (handSpeed s) := if_pos origin
    exact ⟨handedOver_tracker α s, by rw [handed, link, speed.link], by rw [handed, pins, speed.pins],
      by rw [handed, control, speed.control], by rw [handed, pending, speed.pending]⟩
  · have handed : handedOver α s = handSpeed s := if_neg origin
    exact handed ▸ .of_fuelOnly speed origin

theorem publishTooth_advances (now : Time) (α index span : Nat) (s : State) :
    Advances (α = 0) s (publishTooth now α index span s) := by
  rw [publishTooth_eq]
  exact (handedOver_advances α s).then_fuelOnly (FuelOnly.of_quiet (toothEvent_quiet _ _))

/-- The tracker after the window close of an edge, when it is one (R19). -/
def windowed (t : Tracker) (previous span : Nat) : Tracker := if closesHere t previous span then t.closeWindow else t

/-- The window close of an edge enters PHASE_HELD: the second with a clear flag in FULL_SYNC (R19). -/
def missesSecond (t : Tracker) (previous span : Nat) : Prop :=
  (closesHere t previous span = true ∧ t.camHistory.windowFlag = false ∧ t.sync = .fullSync) ∧ 1 ≤ t.camHistory.missingRun

theorem publishEdge_of_held {now : Time} {previous α index span : Nat} {s : State} (h : missesSecond s.tracker previous span) :
    publishEdge now previous α index span s =
      if Config.camMissingFirst = true then
        publishTooth now α index span (noteCamMissing (s.setTracker (windowed s.tracker previous span)))
      else noteCamMissing (publishTooth now α index span (s.setTracker (windowed s.tracker previous span))) := by
  obtain ⟨⟨closes, missed⟩, second⟩ := h
  unfold publishEdge windowed
  rw [if_pos closes, if_pos closes]
  exact if_neg fun same => (closeWindow_sync_iff _).mp same ⟨missed, second⟩

theorem publishEdge_of_not_held {now : Time} {previous α index span : Nat} {s : State}
    (h : ¬ missesSecond s.tracker previous span) :
    publishEdge now previous α index span s =
      publishTooth now α index span (s.setTracker (windowed s.tracker previous span)) := by
  unfold publishEdge windowed
  by_cases closes : closesHere s.tracker previous span = true
  · rw [if_pos closes, if_pos closes]
    exact if_pos ((closeWindow_sync_iff _).mpr fun held => h ⟨⟨closes, held.1⟩, held.2⟩)
  · rw [if_neg closes, if_neg closes]
    rfl

/-! ### A counted edge (R11) -/

/-- The tracker after an edge that counts as a tooth, before its window close (R8, R11, R13). -/
def countedAs (t : Tracker) (now : Time) (α j : Nat) (rev : Revolution) (raw span : Nat) (pulse : Option Time) : Tracker :=
  let p := min 4000000 (max 1 (raw / span))
  { t with
    toothIndex := some j, revolution := some rev, lastEdge := some ⟨now, some α⟩
    history := { previous := t.history.current, current := some p
                 predicted := some (predict t.wheel.accel t.history.current p) }
    speed := min 65535 (240000000 / (pitches t.wheel.wheel * p))
    crankTimer := some now, pulseStart := pulse }

theorem countedEdge_of_tooth {now last : Time} {α₀ i : Nat} {r : Revolution} {s : State}
    (edge : s.tracker.lastEdge = some ⟨last, some α₀⟩) (tooth : s.tracker.toothIndex = some i)
    (revolution : s.tracker.revolution = some r)
    (test : gapTest s.tracker.wheel.wheel (elapsed last now) s.tracker.history.current =
      decide (i = lastTooth s.tracker.wheel.wheel)) :
    countedEdge now (pulsed s) =
      let w := s.tracker.wheel.wheel
      let gap := decide (i = lastTooth w)
      let j := if gap then 0 else i + 1
      let rev := if gap then otherRev r else r
      let span := if gap then missing w + 1 else 1
      let α := revBase rev + j * ticksPerTooth w
      let u := { s with tracker := countedAs s.tracker now α j rev (elapsed last now) span (pulseAt s) }
      if s.tracker.sync = .crankSync then handSpeed u else publishEdge now α₀ α j span u := by
  rw [countedEdge_eq (s := pulsed s) edge tooth]
  refine (if_pos test).trans ?_
  dsimp only
  rw [show (pulsed s).tracker.revolution = some r from revolution]
  rfl

/-- The tracker a window close leaves, written out as R19 gives it. -/
theorem windowed_eq (t : Tracker) (previous span : Nat) :
    windowed t previous span = { t with
      sync := if (closesHere t previous span = true ∧ t.camHistory.windowFlag = false ∧ t.sync = .fullSync) ∧
        1 ≤ t.camHistory.missingRun then .phaseHeld else t.sync
      camHistory := { t.camHistory with
        windowFlag := if closesHere t previous span = true then false else t.camHistory.windowFlag
        missingRun := if closesHere t previous span = true ∧ t.camHistory.windowFlag = false ∧ t.sync = .fullSync then
          (if 1 ≤ t.camHistory.missingRun then 2 else t.camHistory.missingRun + 1) else t.camHistory.missingRun } } := by
  unfold windowed
  by_cases closes : closesHere t previous span = true
  · rw [if_pos closes, closeWindow_eq]
    simp only [closes, true_and, if_true]
  · rw [if_neg closes]
    simp only [closes, false_and, if_false, Bool.false_eq_true]

/-- The hand-overs at a tooth in the order of R13 and R14, an origin event among them at angle 0. -/
theorem publishTooth_of_tracker {now : Time} {α j span : Nat} {v : State} {t : Tracker} (origin : Prop) [Decidable origin]
    (zero : origin ↔ α = 0) (wheel : v.tracker.wheel = t.wheel) (history : v.tracker.history = t.history) :
    publishTooth now α j span v =
      toothEvent { time := now, angle := α, spanBefore := span, spanNext := spanAfter t.wheel.wheel j
                   predicted := t.history.predicted.getD 0 }
        (if origin then originEvent (handSpeed v) else handSpeed v) := by
  rw [publishTooth_eq, wheel, history, handedOver]
  by_cases h : α = 0
  · rw [if_pos h, if_pos (zero.mpr h)]
  · rw [if_neg h, if_neg (mt zero.mp h)]

theorem noteCamMissing_of_second {v : State} (second : v.tracker.camHistory.missingRun = 2) :
    noteCamMissing v = handSync (raise .camMissing .absent none 2 v) := by
  rw [noteCamMissing, second]
  rfl

/-- Settles O42: the tooth the edge counts as, its window close, and the hand-overs in their order. -/
theorem countedEdgeAdvancesTheTooth : Obligations.CountedEdgeAdvancesTheTooth := by
  intro last α₀ i r s running counting edge tooth revolution raw w h enough gap test j rev span α p κ closes c missed next
    origin event publish held
  have accepted : exec .crankActiveEdge s = .next (countedEdge s.control.timebase (pulsed s)) := by
    rw [exec_crankActiveEdge_of_accepted running (by rcases counting with h | h | h <;> simp [h])
      (by rcases counting with h | h | h <;> simp [h]) edge enough, acceptedEdge_of_counting counting]
  rw [accepted, countedEdge_of_tooth edge tooth revolution test]
  let u : State := { s with tracker := countedAs s.tracker s.control.timebase α j rev raw span (pulseAt s) }
  show ∃ t, Host.Outcome.next (if s.tracker.sync = .crankSync then handSpeed u
    else publishEdge s.control.timebase α₀ α j span u) = .next t ∧ _
  refine ⟨_, rfl, ?_⟩
  by_cases crank : s.tracker.sync = .crankSync
  · have open_ : ¬ closes := fun h => h.1 crank
    have kept : ¬ missed := fun h => open_ h.1
    have elsewhere : ¬ origin := fun h => h.1 crank
    have next_eq : next = u.tracker := by
      simp only [next, if_neg open_, if_neg kept, if_neg (fun h => kept (And.left h))]
      rfl
    have speed := handSpeed_fuelOnly u
    rw [if_pos crank]
    dsimp only
    rw [if_pos crank, next_eq, if_neg elsewhere]
    exact ⟨rfl, speed.tracker, speed.link, speed.pins, speed.control, speed.pending⟩
  · have closes_iff : closes ↔ closesHere u.tracker α₀ span = true := ⟨And.right, fun h => ⟨crank, h⟩⟩
    have next_eq : windowed u.tracker α₀ span = next := by
      rw [windowed_eq]
      simp only [next, missed, closes_iff]
      rfl
    have zero : origin ↔ α = 0 := by
      rw [show α = revBase rev + j * ticksPerTooth w from rfl, toothAngle_eq_zero_iff]
      exact ⟨And.right, fun h => ⟨crank, h⟩⟩
    have publish_eq (v : State) (wheel : v.tracker.wheel = next.wheel) (history : v.tracker.history = next.history) :
        publishTooth s.control.timebase α j span v = publish v := by
      have event_eq : event = { time := s.control.timebase, angle := α, spanBefore := span
                                spanNext := spanAfter next.wheel.wheel j
                                predicted := next.history.predicted.getD 0 } := rfl
      rw [publishTooth_of_tracker origin zero wheel history, ← event_eq]
      rfl
    let v : State := { s with tracker := next }
    have finish (x : State) (h : Advances (α = 0) v x) :
        x.tracker = { next with cycle := if origin then s.tracker.cycle + 1 else s.tracker.cycle } ∧
          x.link = s.link ∧ x.pins = s.pins ∧ x.control = s.control ∧ x.pending = s.pending := by
      refine ⟨h.tracker.trans ?_, h.link, h.pins, h.control, h.pending⟩
      simp only [zero]
      rfl
    by_cases second : missed ∧ 1 ≤ c.missingRun
    · have run : next.camHistory.missingRun = 2 := (if_pos second.1).trans (if_pos second.2)
      have heldOver := publishEdge_of_held (now := s.control.timebase) (α := α) (index := j) (s := u)
        (previous := α₀) (span := span) ⟨⟨closes_iff.mp second.1.1, second.1.2⟩, second.2⟩
      rw [next_eq] at heldOver
      rw [if_neg crank]
      dsimp only
      rw [if_neg crank, if_pos second, heldOver]
      have first : noteCamMissing v = held v := noteCamMissing_of_second run
      have frame := noteCamMissing_fuelOnly v
      have published := publish_eq (noteCamMissing v) (by rw [frame.tracker]) (by rw [frame.tracker])
      have publishedFirst := publish_eq v rfl rfl
      have after := publishTooth_advances s.control.timebase α j span v
      have last : noteCamMissing (publish v) = held (publish v) := by
        refine noteCamMissing_of_second ?_
        rw [← publishedFirst, after.tracker]
        exact run
      refine ⟨?_, finish _ ?_⟩
      · split
        · exact published.trans (by rw [first])
        · exact (congrArg noteCamMissing publishedFirst).trans last
      · split
        · exact (publishTooth_advances s.control.timebase α j span (noteCamMissing v)).after_fuelOnly frame
        · exact after.then_fuelOnly (noteCamMissing_fuelOnly _)
    · have notHeld := publishEdge_of_not_held (now := s.control.timebase) (α := α) (index := j) (s := u)
        (previous := α₀) (span := span) fun h => second ⟨⟨closes_iff.mpr h.1.1, h.1.2⟩, h.2⟩
      rw [next_eq] at notHeld
      rw [if_neg crank]
      dsimp only
      rw [if_neg crank, if_neg second, notHeld]
      exact ⟨publish_eq v rfl rfl, finish _ (publishTooth_advances s.control.timebase α j span v)⟩

/-! ### The background seek (R23) -/

theorem filterBasis_of_camOnly {t : Tracker} (camOnly : t.sync = .camOnly) :
    filterBasis t = (t.seek.lastEdge, t.seek.history.predicted) := by
  unfold filterBasis
  rw [camOnly]

theorem exec_crankActiveEdge_of_camOnly {s : State} (running : s.running = true) (camOnly : s.tracker.sync = .camOnly)
    (accepted : filterAccepts s.tracker.seek.lastEdge s.tracker.seek.history.predicted s.control.timebase = true) :
    exec .crankActiveEdge s = .next (backgroundEdge s.control.timebase (pulsed s)) := by
  rw [exec_crankActiveEdge running, activeEdge_of_accepted, acceptedEdge_of_camOnly camOnly]
  rw [filterBasis_of_camOnly camOnly]
  exact accepted

section BackgroundEdge

variable {now : Time} {s : State}

theorem backgroundEdge_of_first (first : s.tracker.seek.lastEdge = none) :
    backgroundEdge now (pulsed s) = (pulsed s).setTracker
      ({ (pulsed s).tracker with seek := { (pulsed s).tracker.seek with lastEdge := some now } }.stallFrom now) := by
  unfold backgroundEdge
  simp only [show (pulsed s).tracker.seek.lastEdge = none from first]

theorem backgroundEdge_of_edge {last : Time} (edge : s.tracker.seek.lastEdge = some last) :
    backgroundEdge now (pulsed s) =
      if gapTest s.tracker.wheel.wheel (elapsed last now) s.tracker.seek.history.current then
        seekFound now (elapsed last now) (pulsed s)
      else (pulsed s).setTracker ({ (pulsed s).tracker with
        seek := { lastEdge := some now
                  history := s.tracker.seek.history.record s.tracker.wheel.accel (normalPeriod (elapsed last now) 1) }
        }.stallFrom now) := by
  unfold backgroundEdge
  simp only [show (pulsed s).tracker.seek.lastEdge = some last from edge]
  rfl

end BackgroundEdge

theorem seekRevolution_eq (estimate : Nat) :
    seekRevolution estimate = if estimate < 2880 ∨ estimate ≥ 8640 then .a else .b := by
  unfold seekRevolution
  simp only [Bool.or_eq_true, decide_eq_true_eq]

theorem revBase_eq_zero_iff (rev : Revolution) : rev = .a ↔ revBase rev = 0 := by cases rev <;> simp [revBase]

theorem gapStart_eq (w : Wheel) (rev : Revolution) : gapStart w (revBase rev) =
    (revBase rev + 11520 - (missing w + 1) * (5760 / pitches w)) % 11520 := by
  cases w <;> cases rev <;> rfl

theorem spanAfter_zero (w : Wheel) : spanAfter w 0 = 1 := by cases w <;> rfl

theorem camAngle_of_edge {t : Tracker} {cam now : Time} {period : Nat} (edge : t.camHistory.lastEdge = some cam)
    (valid : t.camHistory.period = some period) : t.camAngle now = some (camEstimate t.cam.gamma period cam now) := by
  unfold Tracker.camAngle
  rw [edge, valid]

/-- A window close that finds the flag set clears it, and no more (R19). -/
theorem windowed_of_flag {t : Tracker} {previous span : Nat} (flag : t.camHistory.windowFlag = true) :
    windowed t previous span =
      { t with camHistory := { t.camHistory with windowFlag := !closesHere t previous span } } := by
  unfold windowed Tracker.closeWindow
  cases closesHere t previous span with
  | true => simp [flag]
  | false => simp [← flag]

theorem normalPeriod_one (raw : Nat) : normalPeriod raw 1 = min 4000000 (max 1 raw) := by rw [normalPeriod, Nat.div_one]; rfl

/-- The seek has found the gap: its state is the tracker's, SYNC_GAINED follows the drops, and the edge is published as
tooth 0 (R23; log 15). -/
theorem seekFound_eq {now : Time} {raw : Nat} {s : State} {rev : Revolution}
    (revolution : seekRevolution ((s.tracker.camAngle now).getD 0) = rev) :
    seekFound now raw s =
      let t := s.tracker
      let span := missing t.wheel.wheel + 1
      let next := ({ t with
        sync := .fullSync, toothIndex := some 0, revolution := some rev, lastEdge := some ⟨now, some (revBase rev)⟩
        history := t.seek.history, seek := .empty, camHistory := t.camHistory.confirmed }.recorded raw span).stallFrom now
      publishEdge now (gapStart t.wheel.wheel (revBase rev)) (revBase rev) 0 span
        (handSync (raise .syncGained .absent none 5 (dropNonDriving .syncLost (s.setTracker next)))) := by
  subst revolution
  rfl

/-- Settles O43: the seek's first edge, an interval it records, and the gap it finds. -/
theorem backgroundSeekReturnsToFullSync : Obligations.BackgroundSeekReturnsToFullSync := by
  intro s running camOnly k w pulse
  refine ⟨fun first => ?_, fun last edge => ?_⟩
  · rw [exec_crankActiveEdge_of_camOnly running camOnly (by rw [first]; rfl), backgroundEdge_of_first first]
    rfl
  intro raw enough
  rw [exec_crankActiveEdge_of_camOnly running camOnly (by rw [edge]; exact filterAccepts_some.mpr enough),
    backgroundEdge_of_edge edge, normalPeriod_one]
  refine ⟨fun short => congrArg _ ((if_neg (by rw [Bool.not_eq_true]; exact short)).trans rfl),
    fun long cam period camEdge valid => ?_⟩
  intro estimate rev α p length κ closes sure next event
  have revolution : seekRevolution (((pulsed s).tracker.camAngle s.control.timebase).getD 0) = rev := by
    rw [camAngle_of_edge (t := (pulsed s).tracker) camEdge valid]
    exact seekRevolution_eq estimate
  let u : State := handSync (raise .syncGained .absent none 5 (dropNonDriving .syncLost { s with tracker := next }))
  have frame : FuelOnly { s with tracker := next } u :=
    (FuelOnly.of_quiet ((dropNonDriving_quiet _ _).trans (raise_quiet _ _ _ _ _))).trans (handSync_fuelOnly _)
  have tracker : u.tracker = next := frame.tracker
  have closed : windowed u.tracker (gapStart w α) (missing w + 1) = { next with camHistory := sure (!closes) } := by
    have starts : gapStart w α = (α + 11520 - length) % 11520 := gapStart_eq w rev
    rw [tracker, starts]
    exact windowed_of_flag rfl
  have found : seekFound s.control.timebase raw (pulsed s) =
      publishTooth s.control.timebase α 0 (missing w + 1) { u with tracker := { next with camHistory := sure (!closes) } } := by
    rw [← closed]
    refine (seekFound_eq (s := pulsed s) revolution).trans (publishEdge_of_not_held fun held => ?_)
    have flag : u.tracker.camHistory.windowFlag = false := held.1.2.1
    rw [tracker] at flag
    cases flag
  have advances := publishTooth_advances s.control.timebase α 0 (missing w + 1)
    { u with tracker := { next with camHistory := sure (!closes) } }
  have event_eq : event = { time := s.control.timebase, angle := α, spanBefore := missing w + 1
                            spanNext := spanAfter w 0, predicted := next.history.predicted.getD 0 } := by
    rw [spanAfter_zero]
    rfl
  have zero : rev = .a ↔ α = 0 := revBase_eq_zero_iff rev
  have published := publishTooth_of_tracker (now := s.control.timebase) (α := α) (j := 0) (span := missing w + 1) (t := next)
    (v := { u with tracker := { next with camHistory := sure (!closes) } }) (rev = .a) zero rfl rfl
  rw [← event_eq] at published
  refine ⟨_, congrArg _ ((if_pos long).trans (found.trans published)), rfl, ?_, ?_, ?_, ?_⟩
  all_goals rw [← published]
  · rw [advances.tracker]
    simp only [zero]
    rfl
  · exact advances.link.trans frame.link
  · exact advances.pins.trans frame.pins
  · exact advances.control.trans frame.control

end Sys2Proof.Machine

/-! PROOFS. The clock monitor (R193), the short (R123, R140), and cam edges (R15 to R20, R22). -/

namespace Sys2Proof.Machine

open Sys2Proof.Safety

/-! ### The clock monitor -/

theorem countBad_eq (s : State) : countBad s =
    if s.running = true ∧ s.control.clock = .reference then
      handClock (raise .clockLoss .absent none 0
        { s with control := { s.control with refCount := 0, clock := .fallback } })
    else { s with control := { s.control with refCount := 0 } } := by
  unfold countBad
  simp only [Bool.and_eq_true, beq_iff_eq]
  rfl

theorem countGood_eq (s : State) : countGood s =
    let n := min 1024 (s.control.refCount + 1)
    if s.running = true ∧ s.control.clock = .fallback ∧ n = 1024 then
      handClock { s with control := { s.control with refCount := n, clock := .reference } }
    else { s with control := { s.control with refCount := n } } := by
  unfold countGood
  simp only [Bool.and_eq_true, beq_iff_eq, and_assoc]
  rfl

theorem goodCycle_iff {ps : Nat} : goodCycle ps = true ↔ 46875 ≤ ps ∧ ps ≤ 78125 := by simp [goodCycle]

theorem monitored_iff {s : State} : monitored s = true ↔ s.control.mode ≠ .standby ∧ s.pins.resetLow = false := by
  simp [monitored]

/-- Settles O50: a cycle is good or bad by its length, and each is judged by the source and the count. -/
theorem clockMonitorSwitchesTheSource : Obligations.ClockMonitorSwitchesTheSource := by
  intro ps s count switch cut bad n good
  have bad_eq : countBad s = bad := (countBad_eq s).trans rfl
  have good_eq : countGood s = good := (countGood_eq s).trans rfl
  refine ⟨fun awake up => ?_, fun unmonitored => ?_⟩
  · have monitors : monitored s = true := monitored_iff.mpr ⟨awake, up⟩
    refine ⟨congrArg _ ((if_pos monitors).trans ?_), congrArg _ ((if_pos monitors).trans bad_eq)⟩
    by_cases length : 46875 ≤ ps ∧ ps ≤ 78125
    · rw [if_pos (goodCycle_iff.mpr length), if_pos length, good_eq]
    · rw [if_neg (mt goodCycle_iff.mp length), if_neg length, bad_eq]
  · have blind : ¬ monitored s = true := fun h => by
      obtain ⟨awake, up⟩ := monitored_iff.mp h
      rcases unmonitored with h | h
      · exact awake h
      · rw [up] at h
        cases h
    exact ⟨congrArg _ (if_neg blind), congrArg _ (if_neg blind)⟩

/-! ### A short in RUN (R123, R140) -/

theorem exec_shortAssertion (x : Bank) (level : Bool) (s : State) :
    exec (.shortAssertion x level) s = .next (
      if s.running = true ∧ level = true then shortAsserted x (s.setShort x level) else s.setShort x level) := by
  show Host.Outcome.next _ = _
  cases x <;> simp only [Bool.and_eq_true] <;> rfl

/-! ### Cam edges (R15 to R20) -/

theorem inCorrectWindow_iff {c : CamSettings} {θ : Nat} : inCorrectWindow c θ = true ↔
    ((θ : Int) - ((c.gamma : Int) - c.halfWidth)) % 11520 ≤ (2 * (c.halfWidth : Int)) % 11520 := by
  refine decide_eq_true_iff.trans ?_
  simp only [cycleMod]
  omega

theorem inOppositeWindow_iff {c : CamSettings} {θ : Nat} : inOppositeWindow c θ = true ↔
    ((θ : Int) - ((c.gamma : Int) + 5760 - c.halfWidth)) % 11520 ≤ (2 * (c.halfWidth : Int)) % 11520 := by
  refine decide_eq_true_iff.trans ?_
  simp only [cycleMod]
  omega

theorem inRevolutionWindow_iff {c : CamSettings} {θ : Nat} : inRevolutionWindow c θ = true ↔
    ((θ : Int) % 5760 - ((c.gamma : Int) % 5760 - c.halfWidth)) % 5760 ≤ (2 * (c.halfWidth : Int)) % 5760 := by
  simp only [inRevolutionWindow, inRevRange, decide_eq_true_eq]
  omega

theorem crankAngle_of_edge {t : Tracker} {time now : Time} {α p : Nat} (edge : t.lastEdge = some ⟨time, some α⟩)
    (predicted : t.history.predicted = some p) :
    t.crankAngle now = some (crankEstimate t.wheel.wheel α time (spanAfter t.wheel.wheel (t.toothIndex.getD 0)) p now) := by
  unfold Tracker.crankAngle
  rw [edge, predicted]

theorem placeCam_of_angle {now : Time} {θ : Nat} {classify : Nat → State → State} {s : State}
    (angle : s.tracker.crankAngle now = some θ) : placeCam now classify s = classify θ s := by
  unfold placeCam
  rw [angle]

theorem confirmCam_of_fullSync {s : State} (full : s.tracker.sync = .fullSync) :
    confirmCam s = { s with tracker := { s.tracker with camHistory := s.tracker.camHistory.confirmed } } :=
  if_neg (by rw [show ({ s.tracker with camHistory := s.tracker.camHistory.confirmed } : Tracker).sync = .fullSync from full]; decide)

theorem confirmCam_of_phaseHeld {s : State} (held : s.tracker.sync = .phaseHeld) :
    confirmCam s = handSync (raise .syncGained .absent none 4 { s with tracker :=
      { s.tracker with sync := .fullSync, camHistory := s.tracker.camHistory.confirmed } }) :=
  (if_pos held).trans rfl

/-- The cam edge takes its place in the cam history before it is placed by its angle (R15). -/
theorem exec_camEdge {s : State} (running : s.running = true) :
    exec .camEdge s = .next (camEdgeAt s.control.timebase s) := congrArg Host.Outcome.next (if_pos running)

theorem camEdgeAt_of_idle {now : Time} {s : State} (idle : s.tracker.sync = .stopped ∨ s.tracker.sync = .seeking) :
    camEdgeAt now s = s.setTracker (s.tracker.camUpdate now) := by
  unfold camEdgeAt
  rcases idle with h | h <;> rw [h]

theorem camEdgeAt_of_crankSync {now : Time} {s : State} (sync : s.tracker.sync = .crankSync) :
    camEdgeAt now s = placeCam now resolvePhase (s.setTracker (s.tracker.camUpdate now)) := by
  unfold camEdgeAt
  rw [sync]

theorem camEdgeAt_of_inSync {now : Time} {s : State} (sync : s.tracker.sync = .fullSync ∨ s.tracker.sync = .phaseHeld) :
    camEdgeAt now s = placeCam now classifyCam (s.setTracker (s.tracker.camUpdate now)) := by
  unfold camEdgeAt
  rcases sync with h | h <;> rw [h]

theorem flipPhase_tracker (s : State) : (flipPhase s).tracker =
    { s.tracker.exchanged with camHistory := s.tracker.exchanged.camHistory.noConflict } :=
  (dropNonDriving_quiet _ _).tracker

theorem revolutionCode_getD (o : Option Revolution) :
    revolutionCode (o.getD .a) = match o with | some .b => 1 | _ => 0 := by
  rcases o with _ | _ | _ <;> rfl

/-- Settles O46: the windows as inequalities mod 11 520; each classification by its case. -/
theorem camEdgePlacesThePhase : Obligations.CamEdgePlacesThePhase := by
  intro s running camOnly u noise sure flipped
  rw [exec_camEdge running]
  refine ⟨fun idle => congrArg _ ((camEdgeAt_of_idle idle).trans rfl), fun t α p edge predicted => ?_⟩
  intro i w θ γ h correct opposite revolves
  have angle : (s.setTracker (s.tracker.camUpdate s.control.timebase)).tracker.crankAngle s.control.timebase = some θ :=
    crankAngle_of_edge (t := (s.setTracker (s.tracker.camUpdate s.control.timebase)).tracker) edge predicted
  have correct_iff : inCorrectWindow s.tracker.cam θ = true ↔ correct := inCorrectWindow_iff
  have opposite_iff : inOppositeWindow s.tracker.cam θ = true ↔ opposite := inOppositeWindow_iff
  have revolves_iff : inRevolutionWindow s.tracker.cam θ = true ↔ revolves := inRevolutionWindow_iff
  refine ⟨fun crank => congrArg _ ?resolved, fun inSync => congrArg _ ?classified⟩
  case resolved =>
    rw [camEdgeAt_of_crankSync crank, placeCam_of_angle angle]
    by_cases inWindow : revolves
    · rw [if_pos inWindow]
      refine (if_pos (revolves_iff.mpr inWindow)).trans (congrArg (gainSync .crankSync) ?_)
      by_cases placed : correct
      · rw [if_pos placed]
        exact congrArg (fun x : Tracker => { s with tracker := { x with sync := .fullSync, camHistory := x.camHistory.confirmed } })
          (if_pos (correct_iff.mpr placed))
      · rw [if_neg placed]
        exact congrArg (fun x : Tracker => { s with tracker := { x with sync := .fullSync, camHistory := x.camHistory.confirmed } })
          (if_neg (mt correct_iff.mp placed))
    · rw [if_neg inWindow]
      exact if_neg (mt revolves_iff.mp inWindow)
  case classified =>
    rw [camEdgeAt_of_inSync inSync, placeCam_of_angle angle]
    let confirm (x : State) : State :=
      if s.tracker.sync = .fullSync then { x with tracker := { x.tracker with camHistory := sure } }
      else handSync (raise .syncGained .absent none 4 { x with tracker := { x.tracker with sync := .fullSync, camHistory := sure } })
    have confirms (x : State) (sync : x.tracker.sync = s.tracker.sync) (history : x.tracker.camHistory.confirmed = sure) :
        confirmCam x = confirm x := by
      dsimp only [confirm]
      rcases inSync with full | held
      · rw [if_pos full, confirmCam_of_fullSync (sync.trans full), history]
      · rw [if_neg (by rw [held]; decide), confirmCam_of_phaseHeld (sync.trans held), history]
    by_cases placed : correct
    · exact (if_pos (correct_iff.mpr placed)).trans ((confirms u rfl rfl).trans (if_pos placed).symm)
    refine (if_neg (mt correct_iff.mp placed)).trans (Eq.trans ?_ (if_neg placed).symm)
    by_cases against : opposite
    · refine (if_pos (opposite_iff.mpr against)).trans (Eq.trans ?_ (if_pos against).symm)
      by_cases second : 1 ≤ s.tracker.camHistory.conflictRun
      · refine (if_pos second).trans (Eq.trans ?_ (if_pos second).symm)
        have tracker := flipPhase_tracker (countCamConflict u)
        refine (confirms (flipPhase (countCamConflict u)) (by rw [tracker]; rfl) (by rw [tracker]; rfl)).trans
          (congrArg confirm ?_)
        exact congrArg (fun n => raise .phaseFlip .absent none (half n) _) (revolutionCode_getD flipped.revolution)
      · exact (if_neg second).trans (Eq.trans rfl (if_neg second).symm)
    · exact (if_neg (mt opposite_iff.mp against)).trans (Eq.trans rfl (if_neg against).symm)

end Sys2Proof.Machine

/-! PROOFS. What the hand-overs leave unchanged, and a cam edge in CAM_ONLY (R22, R50, R92, R93). -/

namespace Sys2Proof.Machine

open Sys2Proof.Safety

/-! ### What a hand-over to the supervisor can change (R155, R157, R158) -/

/-- `t` differs from `s` at most in the supervisor's part, the Notice Unit and the requests. -/
def SupervisorOnly (s t : State) : Prop :=
  t = { s with fueling := t.fueling, notices := t.notices, queue := { s.queue with requests := t.queue.requests } }

theorem SupervisorOnly.trans {s t u : State} (h : SupervisorOnly s t) (g : SupervisorOnly t u) : SupervisorOnly s u := by
  unfold SupervisorOnly at *
  rw [h] at g
  exact g

theorem SupervisorOnly.table {s t : State} (h : SupervisorOnly s t) : t.table = s.table := by rw [h]

theorem deriveFueling_supervisorOnly (c : FuelCause) (s : State) : SupervisorOnly s (deriveFueling c s) := by
  unfold deriveFueling
  dsimp only
  split
  · exact rfl
  · split
    · unfold SupervisorOnly
      rw [dropNonDriving_frame]
      rfl
    · exact rfl

theorem judgeExpired_supervisorOnly (s : State) : SupervisorOnly s (judgeExpired s) := by
  unfold judgeExpired
  dsimp only
  split
  · exact rfl
  · split <;> exact rfl

theorem handAge_supervisorOnly (s : State) : SupervisorOnly s (handAge s) :=
  ((show SupervisorOnly s (s.setFueling { s.fueling with lastAge := s.store.age }) from rfl).trans
    (judgeExpired_supervisorOnly _)).trans (deriveFueling_supervisorOnly _ _)

/-! ### Requests that stay ARMED, and names that stand -/

/-- From `s` to `t` no request becomes ARMED, and the cycle-planned flags stand. -/
structure Mild (s t : State) : Prop where
  armed : ∀ r ∈ t.queue.requests, r.state = .armed → r ∈ s.queue.requests
  named : ∀ c, (t.cyl c).cyclePlanned = (s.cyl c).cyclePlanned

theorem Mild.refl (s : State) : Mild s s := ⟨fun _ h _ => h, fun _ => rfl⟩

theorem Mild.trans {s t u : State} (h : Mild s t) (g : Mild t u) : Mild s u :=
  ⟨fun r hr a => h.armed r (g.armed r hr a) a, fun c => (g.named c).trans (h.named c)⟩

theorem Mild.foldl {α : Type} {f : State → α → State} (l : List α) (s : State) (step : ∀ a ∈ l, ∀ s, Mild s (f s a)) :
    Mild s (l.foldl f s) := by
  induction l generalizing s with
  | nil => exact .refl s
  | cons a l ih =>
    rw [List.forall_mem_cons] at step
    exact (step.1 s).trans (ih _ step.2)

theorem Mild.of_requests {s t : State} (requests : t.queue.requests ⊆ s.queue.requests)
    (named : ∀ c, (t.cyl c).cyclePlanned = (s.cyl c).cyclePlanned) : Mild s t :=
  ⟨fun _ hr _ => requests hr, named⟩

theorem removeRequest_mild (r : Request) (s : State) : Mild s (removeRequest r s) :=
  .of_requests (fun _ h => List.mem_of_mem_erase h) fun _ => rfl

theorem noteDrop_mild (q : DropReason) (r : Request) (s : State) : Mild s (noteDrop q r s) :=
  .of_requests (fun _ h => h) fun _ => rfl

theorem dropRequest_mild (q : DropReason) (r : Request) (s : State) : Mild s (dropRequest q r s) :=
  (removeRequest_mild r s).trans (noteDrop_mild q r _)

theorem moveRequest_mild (old : Request) {new : Request} (s : State) (h : new.state ≠ .armed) :
    Mild s (moveRequest old new s) := by
  unfold moveRequest
  split
  · refine ⟨fun r hr armed => ?_, fun _ => rfl⟩
    rcases mem_insertRequest.mp hr with rfl | hr
    · exact absurd armed h
    · exact List.mem_of_mem_erase hr
  · exact .refl s

theorem setCyl_mild {s : State} {c : Cylinder} {k : CylState} (h : k.cyclePlanned = (s.cyl c).cyclePlanned) :
    Mild s (s.setCyl c k) := by
  refine .of_requests (fun _ h => h) fun x => ?_
  by_cases same : x = c
  · rw [same, State.cyl_setCyl_same, h]
  · rw [State.cyl_setCyl_other s k same]

theorem setDrive_mild (s : State) (x : Bank) (d : DriveBank) : Mild s (s.setDrive x d) := by
  cases x <;> exact .of_requests (fun _ h => h) fun _ => rfl

theorem outputsOff_mild (x : Bank) (c : Cylinder) (s : State) : Mild s (outputsOff x c s) :=
  (setDrive_mild s x _).trans (.of_requests (fun _ h => h) fun _ => rfl)

theorem reportEnd_mild (c : Cylinder) (t : Time) (n : Nat) (s : State) : Mild s (reportEnd c t n s) := by
  unfold reportEnd
  split
  · exact (setCyl_mild (s := s) (c := c) (k := { s.cyl c with lastEnd := some t, flushPending := false }) rfl).trans
      (.of_requests (fun _ h => h) fun _ => rfl)
  · exact setCyl_mild rfl

theorem judgeTruncation_mild (x : Bank) (s : State) : Mild s (judgeTruncation x s) := by
  unfold judgeTruncation
  split
  · exact .refl s
  · split
    · exact (((outputsOff_mild _ _ s).trans (reportEnd_mild _ _ _ _)).trans (removeRequest_mild _ _)).trans
        (.of_requests (fun _ h => h) fun _ => rfl)
    · exact .refl s

theorem grant_mild (x : Bank) (r : Request) (s : State) : Mild s (grant x r s) :=
  ((moveRequest_mild r s (new := { r with state := .boost, lateExpiry := none }) (by simp)).trans (setDrive_mild _ x _)).trans
    (.of_requests (fun _ h => h) fun _ => rfl)

theorem auction_mild (x : Bank) (s : State) : Mild s (auction x s) := by
  by_cases locked : (s.drive x).locked = true
  · rw [show auction x s = s from if_pos locked]
    exact .refl s
  · rw [auction_of_unlocked (by simpa using locked)]
    split
    · exact judgeTruncation_mild x s
    · exact (judgeTruncation_mild x s).trans (grant_mild _ _ _)

theorem handOn_mild {r : Request} (s : State) (h : r.state ≠ .armed) : Mild s (handOn r s) := by
  unfold handOn
  split
  · exact (removeRequest_mild r s).trans (.of_requests (fun _ h => h) fun _ => rfl)
  · unfold handOver expireAtOnce
    dsimp only
    have waits := (moveRequest_mild r (new := { r with lateExpiry := some (later (r.dueTime.getD 0) r.lateness) }) s h).trans
      (auction_mild r.bank _)
    split
    · exact waits.trans (dropRequest_mild _ _ _)
    · exact waits

/-! ### Every ARMED request becomes DUE at a cam edge (R93) -/

/-- Recorded DUE, the ARMED requests are those that were, less those recorded. -/
theorem count_recordDue {a : Request} (armed : a.state = .armed) (t : Time) (rs q : List Request) :
    (rs.foldl (fun q r => insertRequest (r.madeDue t .edge) (q.erase r)) q).count a = q.count a - rs.count a := by
  induction rs generalizing q with
  | nil => simp
  | cons r rs ih =>
    have other : r.madeDue t .edge ≠ a := fun h => by
      have due : (r.madeDue t .edge).state = .due := rfl
      rw [h, armed] at due
      cases due
    rw [List.foldl_cons, ih, (insertRequest_perm _ _).count_eq, List.count_cons_of_ne other, List.count_erase,
      List.count_cons, Nat.sub_sub, Nat.add_comm]

/-- The hand-overs of requests made DUE. -/
theorem handOnAll_mild (dues all : List Request) (due : ∀ r ∈ dues, r.state = .due) (s : State) :
    Mild s ((all.filter (fun r => dues.contains r)).foldl (fun u r => handOn r u) s) := by
  refine Mild.foldl _ s fun r hr u => handOn_mild u ?_
  have mem := (List.mem_filter.mp hr).2
  rw [List.contains_iff_mem] at mem
  rw [due r mem]
  decide

theorem madeDue_due {rs : List Request} {t : Time} : ∀ r ∈ rs.map (fun r => r.madeDue t .edge), r.state = .due := by
  intro r hr
  obtain ⟨x, -, rfl⟩ := List.mem_map.mp hr
  rfl

theorem queueCam_named (now : Time) (s : State) (c : Cylinder) :
    ((queueCam now s).cyl c).cyclePlanned = (s.cyl c).cyclePlanned := by
  rw [queueCam, becomeDueTogether_eq now List.filter_sublist.subperm]
  exact (handOnAll_mild _ _ madeDue_due _).named c

theorem queueCam_none_armed (now : Time) (s : State) : ∀ r ∈ (queueCam now s).queue.requests, r.state ≠ .armed := by
  intro r hr armed
  rw [queueCam, becomeDueTogether_eq now List.filter_sublist.subperm] at hr
  have recorded := (handOnAll_mild _ _ madeDue_due _).armed r hr armed
  have counted := count_recordDue armed now (s.queue.requests.filter (fun r => r.state == .armed)) s.queue.requests
  rw [List.count_filter (by simp [armed]), Nat.sub_self] at counted
  exact absurd recorded (List.count_eq_zero.mp counted)

/-! ### The limp planning of a position (R50, R92) -/

/-- From `s` to `t` a request that is ARMED and new bears the cycle number in force. -/
def ArmsUnderCycle (s t : State) : Prop :=
  ∀ r ∈ t.queue.requests, r.state = .armed → r ∈ s.queue.requests ∨ r.cycle = s.tracker.cycle

theorem admitLimp_arms (t : Time) (period : Nat) {r : Request} {s : State} (cycle : r.cycle = s.tracker.cycle) :
    ArmsUnderCycle s (admitLimp t period r s) ∧ ∀ c, ((admitLimp t period r s).cyl c).cyclePlanned = (s.cyl c).cyclePlanned := by
  rcases Nat.lt_or_ge s.queue.requests.length 16 with room | full
  · rw [admitLimp_room t period r room]
    dsimp only
    split
    · refine ⟨fun x hx armed => ?_, fun c => (handOn_mild _ (by simp)).named c⟩
      have entered := (handOn_mild _ (by simp)).armed x hx armed
      rcases mem_insertRequest.mp entered with rfl | entered
      · cases armed
      · rcases mem_insertRequest.mp (List.mem_of_mem_erase entered) with rfl | entered
        · exact .inr cycle
        · exact .inl entered
    · refine ⟨fun x hx _ => ?_, fun _ => rfl⟩
      rcases mem_insertRequest.mp hx with rfl | hx
      · exact .inr cycle
      · exact .inl hx
  · rw [admitLimp_full t period r full]
    exact ⟨fun x hx _ => .inl hx, fun _ => rfl⟩

theorem planLimp_arms (t : Time) (period : Nat) (g : Planning) (s : State) :
    ArmsUnderCycle s (planLimp t period g s) ∧
      ∀ c, ((planLimp t period g s).cyl c).cyclePlanned = (s.cyl c).cyclePlanned := by
  cases good : parityGood s.store.limp with
  | false =>
    rw [planLimp_of_mismatch t period g good]
    exact ⟨fun x hx _ => .inl hx, fun _ => rfl⟩
  | true =>
    rw [planLimp_of_good t period g good]
    split
    · exact ⟨fun x hx _ => .inl hx, fun _ => rfl⟩
    · split
      · exact admitLimp_arms (s := s.setClamp _) t period rfl
      · exact admitLimp_arms t period rfl

/-- A position's limp planning names its cylinder, and what it arms bears the cycle number in force. -/
theorem planLimpPosition_arms (t : Time) (period i : Nat) (s : State) :
    ArmsUnderCycle s (planLimpPosition t period i s) ∧
      ∀ c, ((planLimpPosition t period i s).cyl c).cyclePlanned =
        ((s.cyl c).cyclePlanned || (s.table.ring[i]?).any (fun e => e.cylinder == c)) := by
  cases ring : s.table.ring[i]? with
  | none =>
    rw [planLimpPosition_none (by rw [ringAt, ring]; rfl)]
    exact ⟨fun x hx _ => .inl hx, fun c => (Bool.or_false _).symm⟩
  | some entry =>
    have named (c : Cylinder) : ((nameCylinder entry.cylinder s).cyl c).cyclePlanned =
        ((s.cyl c).cyclePlanned || entry.cylinder == c) := by
      by_cases same : c = entry.cylinder
      · rw [same, nameCylinder, State.cyl_setCyl_same, beq_self_eq_true, Bool.or_true]
      · rw [nameCylinder, State.cyl_setCyl_other s _ same, beq_eq_false_iff_ne.mpr (Ne.symm same), Bool.or_false]
    rw [planLimpPosition_of_ring ring]
    split
    · obtain ⟨arms, names⟩ := planLimp_arms t period
        { position := Fin.ofNat 8 i, entry := entry, shadow := decide (effectiveMode (s.cyl entry.cylinder) = .shadow)
          reference := s.tracker.cam.gamma } (nameCylinder entry.cylinder s)
      exact ⟨arms, fun c => (names c).trans (named c)⟩
    · exact ⟨fun x hx _ => .inl hx, named⟩

/-- The limp planning of several positions. -/
theorem planLimpPositions_arms (t : Time) (period : Nat) (l : List Nat) (s : State) :
    ArmsUnderCycle s (l.foldl (fun u i => planLimpPosition t period i u) s) ∧
      ∀ c, ((l.foldl (fun u i => planLimpPosition t period i u) s).cyl c).cyclePlanned =
        ((s.cyl c).cyclePlanned || l.any (fun i => (s.table.ring[i]?).any (fun e => e.cylinder == c))) := by
  induction l generalizing s with
  | nil => exact ⟨fun x hx _ => .inl hx, fun c => (Bool.or_false _).symm⟩
  | cons i l ih =>
    obtain ⟨arms, names⟩ := planLimpPosition_arms t period i s
    obtain ⟨later, rest⟩ := ih (planLimpPosition t period i s)
    have quiet := planLimpPosition_quiet t period i s
    refine ⟨fun x hx armed => ?_, fun c => ?_⟩
    · rcases later x hx armed with h | h
      · exact arms x h armed
      · exact .inr (by rw [h, quiet.tracker])
    · rw [List.foldl_cons, rest, names, quiet.ring, List.any_cons, Bool.or_assoc]

/-- The eight positions hold every entry of a ring. -/
theorem any_positions {ring : List RingEntry} (size : ring.length ≤ 8) (p : RingEntry → Bool) :
    [0, 1, 2, 3, 4, 5, 6, 7].any (fun i => (ring[i]?).any p) = ring.any p := by
  rw [Bool.eq_iff_iff, List.any_eq_true, List.any_eq_true]
  constructor
  · rintro ⟨i, -, h⟩
    cases entry : ring[i]? with
    | none =>
      rw [entry] at h
      cases h
    | some e =>
      rw [entry] at h
      exact ⟨e, List.mem_of_getElem? entry, h⟩
  · rintro ⟨e, he, hp⟩
    obtain ⟨i, hi, rfl⟩ := List.mem_iff_getElem.mp he
    refine ⟨i, ?_, by rw [List.getElem?_eq_getElem hi]; exact hp⟩
    have : i < 8 := by omega
    simp only [List.mem_cons, List.not_mem_nil]
    omega

/-! ### A cam edge in CAM_ONLY (R22) -/

theorem swapTakesEffect_table (tag : Byte) (b : Bool) (s : State) : (swapTakesEffect tag b s).table = s.table :=
  (handAge_supervisorOnly (s.setStore _)).table

theorem storeOrigin_table (s : State) : (storeOrigin s).table = s.table := by
  unfold storeOrigin
  split
  · exact swapTakesEffect_table _ _ s
  · exact (handAge_supervisorOnly (s.setStore _)).table

theorem originEvent_table (s : State) : (originEvent s).table =
    { s.table with cyls := s.table.cyls.map (fun c => { c with cyclePlanned := false }) } := storeOrigin_table _

theorem originEvent_unnamed (s : State) (c : Cylinder) : ((originEvent s).cyl c).cyclePlanned = false := by
  rw [State.cyl, originEvent_table]
  exact congrArg CylState.cyclePlanned (Eight.get_map _ _ c)

theorem camEdgeAt_of_camOnly {now last : Time} {c : Nat} {s : State} (camOnly : s.tracker.sync = .camOnly)
    (edge : s.tracker.camHistory.lastEdge = some last) (period : s.tracker.camHistory.period = some c) :
    camEdgeAt now s =
      if elapsed last now < c / 2 then countCamNoise s else camOnlyAccepted now (camPeriod last now) s := by
  unfold camEdgeAt
  rw [camOnly]
  dsimp only
  unfold camOnlyEdge
  simp only [edge, period, Option.getD_some]

/-- Settles O47: the hand-overs in their order; a name is given to every entry of the ring, and what is ARMED is new. -/
theorem camEdgeInCamOnlyIsAnOrigin : Obligations.CamEdgeInCamOnlyIsAnOrigin := by
  intro last c s running camOnly edge valid
  rw [exec_camEdge running, camEdgeAt_of_camOnly camOnly edge valid]
  refine ⟨fun early => congrArg _ (if_pos early), fun late size => ?_⟩
  intro period next
  let o : State := originEvent (handSpeed { s with tracker := next })
  obtain ⟨tracker, link, control, pins, -⟩ := originEvent_frame (handSpeed { s with tracker := next })
  have speed := handSpeed_fuelOnly { s with tracker := next }
  have cam := camEvent_quiet s.control.timebase period o
  have queued := queueCam_quiet s.control.timebase o
  obtain ⟨arms, names⟩ := planLimpPositions_arms s.control.timebase period [0, 1, 2, 3, 4, 5, 6, 7]
    (queueCam s.control.timebase o)
  have otracker : o.tracker = { next with cycle := s.tracker.cycle + 1 } := by rw [tracker, speed.tracker]
  have ring : (queueCam s.control.timebase o).table.ring = s.table.ring := by
    rw [queued.ring]
    exact (congrArg CylinderTable.ring (originEvent_table _)).trans speed.ring
  have planned : camEvent s.control.timebase period o = [0, 1, 2, 3, 4, 5, 6, 7].foldl
      (fun u i => planLimpPosition s.control.timebase period i u) (queueCam s.control.timebase o) := rfl
  rw [planned] at cam
  have whole : camOnlyAccepted s.control.timebase (camPeriod last s.control.timebase) s = [0, 1, 2, 3, 4, 5, 6, 7].foldl
      (fun u i => planLimpPosition s.control.timebase period i u) (queueCam s.control.timebase o) := rfl
  have accepted : ¬ elapsed last s.control.timebase < c / 2 := Nat.not_lt.mpr late
  rw [whole, if_neg accepted]
  refine ⟨_, rfl, rfl, cam.tracker.trans otracker, fun x => ?_, fun r hr armed => ?_,
    cam.link.trans (link.trans speed.link), cam.control.trans (control.trans speed.control),
    cam.pins.trans (pins.trans speed.pins)⟩
  · rw [names x, queueCam_named, originEvent_unnamed, Bool.false_or, ring, any_positions size]
  · rcases arms r hr armed with h | h
    · exact absurd armed (queueCam_none_armed _ _ r h)
    · rw [h, queued.tracker, otracker]

end Sys2Proof.Machine

/-! PROOFS. The short (R123, R140), the cylinder commands (R51, R55, R57), COPY_ACTIVE (R66), swaps and origin events
(R69 to R71), and SET_LIMITS (R87). -/

namespace Sys2Proof.Machine

open Sys2Proof.Safety

/-! ### A short in RUN -/

/-- The occupant's outputs go off, on a bank whose record has just been changed, and only an end in BOOST starts the
recharge (R139). -/
theorem rechargeIfBoost_setDrive (x : Bank) (o : Request) (t : Time) (s : State) (d : DriveBank) :
    rechargeIfBoost x o t (outputsOff x o.cylinder (s.setDrive x d)) =
      State.setDrive { s with sel := s.sel.set o.cylinder false } x { d with
        boostOut := false, holdOut := false, pulse := none
        charge := if o.state = .boost then .charging (some (t + BitVec.ofNat 32 s.queue.limits.recharge)) else d.charge } := by
  rw [rechargeIfBoost_outputsOff]
  cases x <;> rfl

theorem shortAsserted_of_locked {x : Bank} {s : State} (locked : (s.drive x).locked = true) : shortAsserted x s = s :=
  if_pos locked

theorem shortAsserted_of_unlocked {x : Bank} {s : State} (unlocked : (s.drive x).locked = false) :
    shortAsserted x s = raise .bankShort (.bank x) (some x) (bankShortDetail (occupant x s))
      (shortAborts x (occupant x s) (s.setDrive x { s.drive x with locked := true })) := if_neg (by simp [unlocked])

/-- Settles O33: a bank that is locked stays as it is; one without an occupant is locked and reported. -/
theorem shortLocksTheBankAndAborts : Obligations.ShortLocksTheBankAndAborts := by
  intro x level s p
  have level_eq : s.setShort x level = p := by cases x <;> rfl
  have drive : p.drive x = s.drive x := by cases x <;> rfl
  have occupant_eq : occupant x p = occupant x s := rfl
  rw [exec_shortAssertion, level_eq]
  by_cases acts : s.running = true ∧ level = true
  · rw [if_pos acts]
    cases locked : (s.drive x).locked with
    | true => rw [shortAsserted_of_locked (drive ▸ locked), if_neg (fun h => by cases h.2.2)]
    | false =>
      rw [shortAsserted_of_unlocked (drive ▸ locked), if_pos ⟨acts.1, acts.2, rfl⟩, occupant_eq, drive]
      cases occupant x s with
      | none => rfl
      | some o =>
        dsimp only [shortAborts, abortByShort, abortBegin, dropRequest]
        rw [rechargeIfBoost_setDrive, State.setDrive_now]
        rfl
  · rw [if_neg acts, if_neg fun h => acts ⟨h.1, h.2.1⟩]

/-! ### Cylinder commands -/

theorem ownSetCylMode_eq (c m : Byte) (s : State) : ownSetCylMode [c, m] s =
    match cylOfNumber c.toNat with
    | none => refuse s .badValue []
    | some x =>
      if 2 < m.toNat then refuse s .badValue []
      else answerOk (s.setCyl x { s.cyl x with
        hostMode := if m = 0 then .fire else if m = 1 then .shadow else .cut }) [] := by
  have own : ownSetCylMode [c, m] s =
      match cylOfNumber c.toNat, modeOfCode m.toNat with
      | some c, some m => answerOk (s.setCyl c { s.cyl c with hostMode := m }) []
      | _, _ => refuse s .badValue [] := rfl
  rw [own, modeOfCode_byte]
  cases cylOfNumber c.toNat with
  | none => rfl
  | some x => by_cases high : 2 < m.toNat <;> simp only [high, if_true, if_false]

theorem byte_bit (b : Bool) : byte (bit b) = if b then 1 else 0 := by cases b <;> rfl

theorem setCyl_cyl_self (s : State) (c : Cylinder) : s.setCyl c (s.cyl c) = s := by cases c <;> rfl

/-- What a flush leaves of the cylinder drives. -/
theorem cylDriving_dropWhere (x : Cylinder) (s : State) :
    cylDriving x (dropWhere .flushed (flushReaches x) s) =
      (s.queue.requests.filter (fun r => !(r.cylinder == x && !driving r.state))).any (fun r => r.cylinder == x) := by
  unfold cylDriving
  rw [dropWhere_requests, List.any_filter, List.any_filter]
  congr 1
  funext r
  unfold flushReaches
  cases r.cylinder == x <;> cases driving r.state <;> rfl

theorem ownFlushCyl_of_none {c : Byte} (s : State) (unknown : cylOfNumber c.toNat = none) :
    ownFlushCyl [c] s = refuse s .badValue [] := by
  have own : ownFlushCyl [c] s = match cylOfNumber c.toNat with
    | none => refuse s .badValue []
    | some x => _ := rfl
  rw [own, unknown]

theorem ownFlushCyl_of_some {c : Byte} {x : Cylinder} (s : State) (known : cylOfNumber c.toNat = some x) :
    ownFlushCyl [c] s =
      if (s.cyl x).flushPending then refuse s .flushPending []
      else
        let t := dropWhere .flushed (flushReaches x) s
        let count := byte (s.queue.requests.filter (flushReaches x)).length
        if cylDriving x t then ⟨t.setCyl x { t.cyl x with flushPending := true }, .accepted, [count]⟩
        else answerOk t [count] := by
  have own : ownFlushCyl [c] s = match cylOfNumber c.toNat with
    | none => refuse s .badValue []
    | some x => if (s.cyl x).flushPending then refuse s .flushPending []
      else
        let t := dropWhere .flushed (flushReaches x) s
        let count := byte (s.queue.requests.filter (flushReaches x)).length
        if cylDriving x t then ⟨t.setCyl x { t.cyl x with flushPending := true }, .accepted, [count]⟩
        else answerOk t [count] := rfl
  rw [own, known]

/-- Settles O16: each command is judged by its cylinder; a flush is a drop order. -/
theorem cylinderCommandsActOnTheirCylinder : Obligations.CylinderCommandsActOnTheirCylinder := by
  refine ⟨fun tag c m s running => ⟨?mode, ?mask⟩, fun tag c s running => ?flush⟩
  case mode =>
    have own := ownSetCylMode_eq c m s
    cases known : cylOfNumber c.toNat with
    | none =>
      rw [known] at own
      exact exec_of_answer (c := .setCylMode) rfl running own
    | some x =>
      rw [known] at own
      by_cases high : 2 < m.toNat
      · exact (exec_of_answer (c := .setCylMode) rfl running (own.trans (if_pos high))).trans (congrArg _ (if_pos high).symm)
      · exact (exec_of_owner (c := .setCylMode) rfl running (own.trans (if_neg high))).trans (congrArg _ (if_neg high).symm)
  case mask =>
    have own : ownClearMask [c] s = match cylOfNumber c.toNat with
      | none => refuse s .badValue []
      | some x => answerOk (s.setCyl x { s.cyl x with masked := false, failures := 0 }) [byte (bit (s.cyl x).masked)] := rfl
    cases known : cylOfNumber c.toNat with
    | none =>
      rw [known] at own
      exact exec_of_answer (c := .clearMask) rfl running own
    | some x =>
      rw [known] at own
      simp only [byte_bit] at own
      exact exec_of_owner (c := .clearMask) rfl running own
  case flush =>
    cases known : cylOfNumber c.toNat with
    | none => exact exec_of_answer (c := .flushCyl) rfl running (ownFlushCyl_of_none s known)
    | some x =>
      have own := ownFlushCyl_of_some s known
      dsimp only
      split
      next pending => exact exec_of_answer (c := .flushCyl) rfl running (own.trans (if_pos pending))
      next idle =>
        replace own := own.trans (if_neg idle)
        refine ⟨(dropWhere .flushed (flushReaches x) s).notices, ?_, dropWhere_notices _ _ s⟩
        refine exec_of_owner (c := .flushCyl) rfl running (own.trans ?_)
        have drives := cylDriving_dropWhere x s
        have frame := dropWhere_frame .flushed (flushReaches x) s
        have flag : ({ s.cyl x with flushPending := false } : CylState) = s.cyl x := by
          rw [← Bool.eq_false_iff.mpr idle]
        generalize (s.queue.requests.filter (fun r => !(r.cylinder == x && !driving r.state))).any
          (fun r => r.cylinder == x) = drive at drives ⊢
        cases drive with
        | true =>
          refine (if_pos drives).trans ?_
          rw [frame]
          rfl
        | false =>
          refine (if_neg (by rw [drives]; decide)).trans ?_
          rw [flag, show ∀ t : State, t.cyl x = s.cyl x → t.setCyl x (s.cyl x) = t from fun t h => h ▸ setCyl_cyl_self t x]
          · exact congrArg (answerOk · _) frame
          · rfl

/-! ### COPY_ACTIVE (R66) -/

/-- What COPY_ACTIVE makes of a plan: a copy, or empty when an entry mismatches (R66, R79). -/
def copied (plan : List PlanEntry) : List PlanEntry :=
  if parityFailures plan = 0 then plan.map (fun e => freshEntry e.kind e.start e.duration) else []

/-- STORE_PARITY for a plan copied empty (R79). -/
def noteCopied (active : Bank) (c : Cylinder) (plan : List PlanEntry) (s : State) : State :=
  if parityFailures plan = 0 then s
  else raise .storeParity (.cylinder c) none (storeParityDetail (bankCode active) (parityFailures plan) true) s

/-- A cylinder's plan in the active bank. -/
def Store.activePlan (t : Store) (c : Cylinder) : List PlanEntry := (t.bank t.active).plans.get c

theorem stage_active (t : Store) (c : Cylinder) (es : List PlanEntry) :
    (t.stage c es).active = t.active ∧ (t.stage c es).activePlan = t.activePlan := by
  rcases t with ⟨_, _, _ | _, _, _, _⟩ <;> exact ⟨rfl, rfl⟩

theorem copyPlan_eq (c : Cylinder) (s : State) : copyPlan c s =
    { s with
      store := s.store.stage c (copied (s.store.activePlan c))
      notices := (noteCopied s.store.active c (s.store.activePlan c) s).notices } := by
  unfold copyPlan copied noteCopied
  by_cases clean : parityFailures (s.store.activePlan c) = 0
  · rw [if_pos clean, if_pos clean]
    exact if_pos clean
  · rw [if_neg clean, if_neg clean]
    exact if_neg clean

theorem SameNotes.noteCopied {s t : State} (h : SameNotes s t) (active : Bank) (c : Cylinder) (plan : List PlanEntry) :
    SameNotes (noteCopied active c plan s) (Machine.noteCopied active c plan t) := by
  unfold Machine.noteCopied
  split
  · exact h
  · exact h.raise _ _ _ _

/-- The copies of several cylinders' plans. -/
theorem copyPlans_eq (l : List Cylinder) (s : State) : l.foldl (fun u c => copyPlan c u) s =
    { s with
      store := l.foldl (fun t c => t.stage c (copied (s.store.activePlan c))) s.store
      notices := (l.foldl (fun u c => noteCopied s.store.active c (s.store.activePlan c) u) s).notices } := by
  induction l generalizing s with
  | nil => rfl
  | cons c l ih =>
    obtain ⟨active, plans⟩ := stage_active s.store c (copied (s.store.activePlan c))
    have same : SameNotes (copyPlan c s) (noteCopied s.store.active c (s.store.activePlan c) s) := by
      rw [copyPlan_eq]
      unfold noteCopied
      split <;> exact ⟨rfl, rfl, rfl⟩
    have notes := same.foldl (f := fun u c => noteCopied s.store.active c (s.store.activePlan c) u)
      (g := fun u c => noteCopied s.store.active c (s.store.activePlan c) u) l fun _ _ x h => h.noteCopied _ x _
    rw [List.foldl_cons, ih, List.foldl_cons, List.foldl_cons, ← notes.notices, copyPlan_eq]
    simp only [active, plans]

/-- A function's values for the eight cylinders. -/
def eightOf {α : Type} (f : Cylinder → α) : Eight α := ⟨f .c1, f .c2, f .c3, f .c4, f .c5, f .c6, f .c7, f .c8⟩

theorem get_eightOf {α : Type} (f : Cylinder → α) (c : Cylinder) : (eightOf f).get c = f c := by cases c <;> rfl

/-- Every plan of the staging bank replaced (R66). -/
theorem stageAll_eq (t : Store) (f : Cylinder → List PlanEntry) :
    allCylinders.foldl (fun u c => u.stage c (f c)) t = match t.active with
      | .a => { t with planB := { t.planB with plans := eightOf f } }
      | .b => { t with planA := { t.planA with plans := eightOf f } } := by
  rcases t with ⟨_, _, _ | _, _, _, _⟩ <;> rfl

theorem parityFailures_eq_zero_iff {plan : List PlanEntry} :
    parityFailures plan = 0 ↔ plan.any (fun e => !parityGood e) = false := by
  rw [parityFailures, List.length_eq_zero_iff, List.filter_eq_nil_iff, List.any_eq_false]

theorem copied_spec (plan : List PlanEntry) :
    (copied plan).map (fun e => (e.kind, e.start, e.duration)) =
        (if plan.any (fun e => !parityGood e) then [] else plan.map (fun e => (e.kind, e.start, e.duration))) ∧
      ∀ e ∈ copied plan, parityGood e = true := by
  unfold copied
  cases bad : plan.any (fun e => !parityGood e) with
  | true =>
    rw [if_neg (by rw [parityFailures_eq_zero_iff, bad]; decide)]
    exact ⟨rfl, List.forall_mem_nil _⟩
  | false =>
    rw [if_pos (parityFailures_eq_zero_iff.mpr bad), List.map_map, if_neg Bool.false_ne_true]
    refine ⟨List.map_congr_left fun _ _ => by simp only [Function.comp_apply, freshEntry], fun e he => ?_⟩
    obtain ⟨x, -, rfl⟩ := List.mem_map.mp he
    exact parityGood_freshEntry _ _ _

/-- A set of cylinders as a byte (R200). -/
theorem cylinderSet_bit (f : Cylinder → Bool) (c : Cylinder) :
    (byte ((allCylinders.map (fun x => bit (f x) * 2 ^ (cylNumber x - 1))).sum)).getLsbD (cylNumber c - 1) = f c := by
  have bits : ∀ b1 b2 b3 b4 b5 b6 b7 b8 : Bool, ∀ c : Cylinder,
      (byte (bit b1 * 1 + (bit b2 * 2 + (bit b3 * 4 + (bit b4 * 8 + (bit b5 * 16 + (bit b6 * 32 + (bit b7 * 64 +
        (bit b8 * 128 + 0))))))))).getLsbD (cylNumber c - 1) =
        (⟨b1, b2, b3, b4, b5, b6, b7, b8⟩ : Eight Bool).get c := by
    intro b1 b2 b3 b4 b5 b6 b7 b8 c
    cases c <;> revert b1 b2 b3 b4 b5 b6 b7 b8 <;> decide +kernel
  have sum : (allCylinders.map (fun x => bit (f x) * 2 ^ (cylNumber x - 1))).sum =
      bit (f .c1) * 1 + (bit (f .c2) * 2 + (bit (f .c3) * 4 + (bit (f .c4) * 8 + (bit (f .c5) * 16 +
        (bit (f .c6) * 32 + (bit (f .c7) * 64 + (bit (f .c8) * 128 + 0))))))) := by
    simp only [allCylinders, List.map_cons, List.map_nil, List.sum_cons, List.sum_nil, cylNumber, Nat.add_one_sub_one,
      Nat.reducePow]
  rw [sum, bits]
  exact get_eightOf f c

/-- Settles O19: plan by plan; the staging bank's are the copies, and the notices come in rising number. -/
theorem copyActiveFillsTheStagingBank : Obligations.CopyActiveFillsTheStagingBank := by
  refine fun tag s running => ⟨fun locked => exec_of_answer (c := .copyActive) rfl running (if_pos locked), fun idle => ?_⟩
  have unlocked : ¬ s.store.pendingSwap.isSome = true := by rw [idle]; decide
  have own : ownCopyActive [] s = answerOk (allCylinders.foldl (fun u c => copyPlan c u) s) [byte (copiedEmpty s)] :=
    if_neg unlocked
  rw [copyPlans_eq, stageAll_eq] at own
  have bad_iff (c : Cylinder) : (parityFailures (s.store.activePlan c) != 0) =
      (s.store.activePlan c).any (fun e => !parityGood e) := by
    rw [Bool.eq_iff_iff, bne_iff_ne, ne_eq, parityFailures_eq_zero_iff, Bool.not_eq_false]
  refine ⟨eightOf (fun c => copied (s.store.activePlan c)), _, byte (copiedEmpty s),
    (exec_of_owner (c := .copyActive) rfl running own).trans rfl, fun c => ⟨?_, ?_⟩, ?_⟩
  · exact (cylinderSet_bit (fun c => parityFailures (s.store.activePlan c) != 0) c).trans (bad_iff c)
  · rw [get_eightOf]
    exact copied_spec _
  · rw [List.foldl_filter]
    congr 2
    funext u c
    unfold noteCopied
    cases bad : (s.store.activePlan c).any (fun e => !parityGood e) with
    | true =>
      rw [if_neg (by rw [parityFailures_eq_zero_iff, bad]; decide)]
      exact (if_pos bad).symm
    | false =>
      rw [if_pos (parityFailures_eq_zero_iff.mpr bad)]
      exact (if_neg (by rw [Bool.not_eq_true]; exact bad)).symm

end Sys2Proof.Machine

/-! PROOFS. Swaps and origin events (R69 to R72), and SET_LIMITS (R87, R112). -/

namespace Sys2Proof.Machine

open Sys2Proof.Safety

/-! ### A swap that takes effect (R70) -/

/-- The store once a swap has taken effect (R70, steps 1 to 3). -/
def swapped (tag : Byte) (t : Store) : Store :=
  match t.active with
  | .a => { t with planB := { t.planB with tag := tag }, active := .b, age := 0, pendingSwap := none }
  | .b => { t with planA := { t.planA with tag := tag }, active := .a, age := 0, pendingSwap := none }

/-- The hand-over of the plan age within a swap. -/
def swapHandsAge (tag : Byte) (s : State) : State := handAge (s.setStore { swapped tag s.store with pendingSwap := s.store.pendingSwap })

theorem swapHandsAge_store (tag : Byte) (s : State) :
    (swapHandsAge tag s).store = { swapped tag s.store with pendingSwap := s.store.pendingSwap } :=
  (handAge_fuelOnly (s.setStore _)).store

theorem swapTakesEffect_eq (tag : Byte) (atOnce : Bool) (s : State) :
    swapTakesEffect tag atOnce s = raise .swapDone (.bank (otherBank s.store.active)) none
      (half (tag.toNat + 256 * bit atOnce)) { swapHandsAge tag s with store := swapped tag s.store } := by
  have exchange : ({ s.store.setBank (otherBank s.store.active) { s.store.bank (otherBank s.store.active) with tag := tag } with
      active := otherBank s.store.active, age := 0 } : Store) =
      { swapped tag s.store with pendingSwap := s.store.pendingSwap } := by
    unfold swapped
    rcases s.store with ⟨_, _, _ | _, _, _, _⟩ <;> rfl
  have settled : ({ (swapHandsAge tag s).store with pendingSwap := none } : Store) = swapped tag s.store := by
    rw [swapHandsAge_store]
    unfold swapped
    rcases s.store with ⟨_, _, _ | _, _, _, _⟩ <;> rfl
  unfold swapTakesEffect
  dsimp only
  rw [exchange]
  exact congrArg (fun t => raise .swapDone _ none _ ((swapHandsAge tag s).setStore t)) settled

theorem swapped_spec (tag : Byte) (t : Store) :
    (swapped tag t).active = otherBank t.active ∧ (∀ y, ((swapped tag t).bank y).plans = (t.bank y).plans) ∧
      ((swapped tag t).bank (swapped tag t).active).tag = tag ∧ ((swapped tag t).bank t.active).tag = (t.bank t.active).tag ∧
      (swapped tag t).age = 0 ∧ (swapped tag t).pendingSwap = none ∧ (swapped tag t).limp = t.limp := by
  rcases t with ⟨_, _, _ | _, _, _, _⟩ <;> exact ⟨rfl, fun y => by cases y <;> rfl, rfl, rfl, rfl, rfl, rfl⟩

theorem judgeExpired_lastAge (s : State) : (judgeExpired s).fueling.lastAge = s.fueling.lastAge := by
  unfold judgeExpired
  dsimp only
  split
  · rfl
  · split <;> rfl

theorem handAge_lastAge (s : State) : (handAge s).fueling.lastAge = s.store.age := by
  rw [handAge, deriveFueling_fueling]
  exact judgeExpired_lastAge _

/-! ### SWAP and CANCEL_SWAP -/

theorem ownSwap_eq (x : Byte) (s : State) : ownSwap [x] s =
    if s.store.pendingSwap.isSome then refuse s .swapPending []
    else if syncWaits s.tracker.sync then answerOk (swapTakesEffect x true s) [1, s.tracker.cycle]
    else answerOk { s with store := { s.store with pendingSwap := some x } } [0, 0xFF] := rfl

/-- Settles O20: a swap by the sync state; what it does, with the hand-over of the age before SWAP_DONE; the origin
event. -/
theorem swapIsScheduledOrTakesEffect : Obligations.SwapIsScheduledOrTakesEffect := by
  refine ⟨fun tag x s running => ⟨?swap, ?cancel⟩, fun x atOnce s => ?effect, fun s => ?origin⟩
  case swap =>
    have own := ownSwap_eq x s
    by_cases pending : s.store.pendingSwap.isSome = true
    · rw [if_pos pending] at own ⊢
      exact exec_of_answer (c := .swap) rfl running own
    · rw [if_neg pending] at own ⊢
      cases sync : s.tracker.sync
      all_goals
        rw [sync] at own
        exact exec_of_owner (c := .swap) rfl running own
  case cancel =>
    have own : ownCancelSwap [] s = match s.store.pendingSwap with
      | none => refuse s .noSwap []
      | some y => answerOk { s with store := { s.store with pendingSwap := none } } [y] := rfl
    cases pending : s.store.pendingSwap with
    | none =>
      rw [pending] at own
      exact exec_of_answer (c := .cancelSwap) rfl running own
    | some y =>
      rw [pending] at own
      exact exec_of_owner (c := .cancelSwap) rfl running own
  case effect =>
    obtain ⟨active, plans, tagged, kept, young, settled, limp⟩ := swapped_spec x s.store
    have age := handAge_supervisorOnly (s.setStore { swapped x s.store with pendingSwap := s.store.pendingSwap })
    dsimp only
    rw [swapTakesEffect_eq]
    refine ⟨active, plans, tagged, kept, young, ?_, settled, limp, ⟨{ swapHandsAge x s with store := swapped x s.store }, rfl, ?_, ?_⟩, ?_⟩
    · exact (handAge_lastAge _).trans young
    · exact (handAge_fuelOnly (s.setStore _)).tracker
    · exact congrArg (fun y => raise .swapDone (.bank y) none _ _) active.symm
    · have handed : SupervisorOnly (s.setStore { swapped x s.store with pendingSwap := s.store.pendingSwap })
          (swapHandsAge x s) := handAge_supervisorOnly _
      unfold SupervisorOnly at handed
      rw [handed]
      rfl
  case origin =>
    exact rfl

/-! ### SET_LIMITS -/

theorem limitFails_field {us : Nat → Nat} {k : Nat} (hk : LimitFails us k) : 1 ≤ k ∧ k < 1 + 8 :=
  match k, hk with
  | 1, _ | 2, _ | 3, _ | 4, _ | 5, _ | 6, _ | 7, _ | 8, _ => by decide

section LimitChecks

variable {p : List Byte} {us : Nat → Nat}

/-- The checks of R87 in their order, on the fields as R87 reads them. -/
theorem limitsFailure_eq (fields : ∀ k < 7, u16 p (2 * k) = us (k + 1)) :
    limitsFailure p =
      if us 1 < 20 ∨ 500 < us 1 then some 1
      else if us 2 < 500 ∨ 10000 < us 2 then some 2
      else if 2000 < us 3 then some 3
      else if 2000 < us 4 then some 4
      else if 2000 < us 5 then some 5
      else if us 6 < 20 ∨ 400 < us 6 then some 6
      else if us 7 < 50 ∨ 2000 < us 7 then some 7
      else if us 2 < us 1 then some 8
      else none := by
  simp only [limitsFailure, Bool.or_eq_true, decide_eq_true_eq, fields 0 (by decide), fields 1 (by decide),
    fields 2 (by decide), fields 3 (by decide), fields 4 (by decide), fields 5 (by decide), fields 6 (by decide)]

open Classical in
/-- The checks are a search for the first field, from 1 to 8, that fails. -/
theorem limitsFailure_eq_find? (fields : ∀ k < 7, u16 p (2 * k) = us (k + 1)) :
    limitsFailure p = (List.range' 1 8).find? (fun k => LimitFails us k) := by
  rw [limitsFailure_eq fields]
  simp only [List.range', List.find?_cons, List.find?_nil, LimitFails]
  grind

theorem limitsFailure_none (fields : ∀ k < 7, u16 p (2 * k) = us (k + 1)) (passes : ∀ k, ¬ LimitFails us k) :
    limitsFailure p = none := by
  classical
  rw [limitsFailure_eq_find? fields, List.find?_eq_none]
  exact fun k _ hk => passes k (of_decide_eq_true hk)

theorem limitsFailure_first (fields : ∀ k < 7, u16 p (2 * k) = us (k + 1)) {k : Nat}
    (first : FirstFailure (fun j _ => LimitFails us j) k 0) : limitsFailure p = some k := by
  classical
  obtain ⟨fails, passed⟩ := firstFailure_iff.mp first
  rw [limitsFailure_eq_find? fields, List.find?_range'_eq_some]
  exact ⟨decide_eq_true fails, List.mem_range'_1.mpr (limitFails_field fails), fun j _ hj => by simpa using passed j hj⟩

end LimitChecks

theorem limitsOf_eq {p : List Byte} {us : Nat → Nat} (fields : ∀ k < 7, u16 p (2 * k) = us (k + 1)) :
    limitsOf p = { minPulse := 4 * us 1, maxPulse := 4 * us 2, minSeparation := 4 * us 3, latenessMain := 4 * us 4
                   latenessOther := 4 * us 5, peakTimeout := 4 * us 6, recharge := 4 * us 7 } := by
  simp only [limitsOf, fields 0 (by decide), fields 1 (by decide), fields 2 (by decide), fields 3 (by decide),
    fields 4 (by decide), fields 5 (by decide), fields 6 (by decide)]

/-- The cylinders whose separation point has moved to an instant already reached have a last end (R87, R112). -/
theorem separationsMoved_eq (before : Nat) (s : State) :
    separationsMoved before s = allCylinders.filter (fun c => match (s.cyl c).lastEnd with
      | none => false
      | some t => !reached (t + BitVec.ofNat 32 before) s.control.timebase &&
          reached (t + BitVec.ofNat 32 s.queue.limits.minSeparation) s.control.timebase) := by
  refine List.filter_congr fun c _ => ?_
  unfold separated separatedUnder
  cases (s.cyl c).lastEnd <;> rfl

/-- Settles O21: the checks are a search for the first failing field, the payload's fields being those read. -/
theorem setLimitsReplacesAllSeven : Obligations.SetLimitsReplacesAllSeven := by
  intro tag p us s running length read
  have fields : ∀ k < 7, u16 p (2 * k) = us (k + 1) := fun k hk => by
    have lo : 2 * k < p.length := by omega
    have hi : 2 * k + 1 < p.length := by omega
    have word := read k _ _ hk (List.getElem?_eq_getElem lo) (List.getElem?_eq_getElem hi)
    rw [word, u16, u8, u8, List.getD_eq_getElem _ _ lo, List.getD_eq_getElem _ _ hi]
    rfl
  refine ⟨fun field first => ?refused, fun passes => ?replaced⟩
  case refused =>
    have own : ownSetLimits p s = refuse s .badValue [byte field] := by
      simp [ownSetLimits, withLength, length, limitsFailure_first fields first]
    exact exec_of_answer (c := .setLimits) rfl running own
  case replaced =>
    have own : ownSetLimits p s = answerOk ((separationsMoved s.queue.limits.minSeparation
        { s with queue := { s.queue with limits := limitsOf p } }).foldl (fun v c => separationElapses c v)
        { s with queue := { s.queue with limits := limitsOf p } }) [] := by
      simp [ownSetLimits, withLength, length, limitsFailure_none fields passes]
    rw [separationsMoved_eq, limitsOf_eq fields] at own
    exact exec_of_owner (c := .setLimits) rfl running own

end Sys2Proof.Machine

/-! PROOFS. The pin reset and the end of a warm-up (R190, R198, R199). -/

namespace Sys2Proof.Machine

open Sys2Proof.Safety

/-! ### Notices that join the queue (R181) -/

/-- The notice of a kind, subject and detail that the state raises now. -/
def noticed (s : State) (n : NoticeKind × Subject × Half) : Notice :=
  { kind := n.1, subject := n.2.1, cycle := s.tracker.cycle, detail := n.2.2, timestamp := s.now }

/-- From `s` to `t` the notices of a list are raised in its order: each joins the queue when it is offered and there is
room (R181). -/
structure Posts (s : State) (l : List (NoticeKind × Subject × Half)) (t : State) : Prop where
  queue : (∀ n ∈ l, offered s.notices.mask n.1 = true) → s.notices.queue.length + l.length ≤ 32 →
    t.notices.queue = s.notices.queue ++ l.map (noticed s)
  mask : t.notices.mask = s.notices.mask
  tracker : t.tracker = s.tracker
  now : t.now = s.now

theorem Posts.nil {s t : State} (notices : t.notices = s.notices) (tracker : t.tracker = s.tracker)
    (now : t.now = s.now) : Posts s [] t where
  queue := fun _ _ => by simp [notices]
  mask := by rw [notices]
  tracker := tracker
  now := now

theorem Posts.raise (k : NoticeKind) (sub : Subject) (b : Option Bank) (d : Half) {s u : State}
    (h : Posts s [] u) : Posts s [(k, sub, d)] (raise k sub b d u) where
  queue := fun offers room => by
    have before := h.queue (by simp) (by simpa using Nat.le_of_lt room)
    rw [List.map_nil, List.append_nil] at before
    have offer := offers _ (List.mem_singleton.mpr rfl)
    rw [← h.mask, offered_iff] at offer
    have joins := raiseAt_queue_alert_overflow u.now k sub b d u
    rw [if_pos offer, if_pos (by rw [before]; exact room), before] at joins
    refine (congrArg (·.1) joins).trans ?_
    simp only [noticeOf, noticed, h.tracker, h.now, List.map_cons, List.map_nil]
  mask := (raiseAt_mask _ _ _ _ _ u).trans h.mask
  tracker := h.tracker
  now := h.now

theorem Posts.trans {s t u : State} {l m : List (NoticeKind × Subject × Half)} (h : Posts s l t) (g : Posts t m u) :
    Posts s (l ++ m) u where
  queue := fun offers room => by
    rw [List.length_append] at room
    have first := h.queue (fun n hn => offers n (List.mem_append_left m hn)) (by omega)
    have second := g.queue (fun n hn => h.mask ▸ offers n (List.mem_append_right l hn)) (by
      rw [first, List.length_append, List.length_map]
      omega)
    have same : noticed t = noticed s := funext fun n => by simp only [noticed, h.tracker, h.now]
    rw [second, first, same, List.map_append, List.append_assoc]
  mask := g.mask.trans h.mask
  tracker := g.tracker.trans h.tracker
  now := g.now.trans h.now

/-! ### The locks judged from SHORT_x (R126) -/

/-- What judging a lock raises. -/
def shortNotice (x : Bank) (s : State) : List (NoticeKind × Subject × Half) :=
  if s.shortLevel x && !(s.drive x).locked then [(.bankShort, .bank x, 0xFFFF)] else []

theorem judgeLock_posts (x : Bank) (s : State) : Posts s (shortNotice x s) (judgeLock x s) := by
  unfold shortNotice judgeLock
  split
  · exact Posts.raise .bankShort (.bank x) (some x) 0xFFFF (.nil (by cases x <;> rfl) (by cases x <;> rfl)
      (by cases x <;> rfl))
  · exact .nil rfl rfl rfl

/-- Beside the lock of its bank, judging a lock changes the Notice Unit alone. -/
theorem judgeLock_eq (x : Bank) (s : State) :
    judgeLock x s = (s.setDrive x { s.drive x with locked := (s.drive x).locked || s.shortLevel x }).setNotices
      (judgeLock x s).notices := by
  unfold judgeLock
  cases locked : (s.drive x).locked <;> cases short : s.shortLevel x
  case false.true => cases x <;> rfl
  all_goals
    have same : ({ s.drive x with locked := (s.drive x).locked } : DriveBank) = s.drive x := rfl
    rw [locked] at same
    simp only [Bool.false_and, Bool.and_false, Bool.not_true, Bool.not_false, Bool.or_true,
      Bool.or_false, Bool.false_eq_true, if_false, same]
    cases x <;> rfl

/-- The state with the locks judged from SHORT_x, the Notice Unit apart. -/
def shortsLocked (s : State) : State :=
  { s with
    driveA := { s.driveA with locked := s.driveA.locked || s.pins.shortA }
    driveB := { s.driveB with locked := s.driveB.locked || s.pins.shortB } }

theorem judgeLocks_eq (s : State) :
    judgeLock .b (judgeLock .a s) = (shortsLocked s).setNotices (judgeLock .b (judgeLock .a s)).notices := by
  have first := judgeLock_eq .a s
  refine (judgeLock_eq .b _).trans ?_
  generalize (judgeLock .b (judgeLock .a s)).notices = n
  rw [first]
  rfl

theorem judgeLocks_posts (s : State) :
    Posts s (shortNotice .a s ++ shortNotice .b s) (judgeLock .b (judgeLock .a s)) := by
  have second := judgeLock_posts .b (judgeLock .a s)
  have kept : shortNotice .b (judgeLock .a s) = shortNotice .b s := by
    rw [judgeLock_eq]
    rfl
  rw [kept] at second
  exact (judgeLock_posts .a s).trans second

theorem shortsLocked_drive (s : State) (x : Bank) :
    (shortsLocked s).drive x = { s.drive x with locked := (s.drive x).locked || s.shortLevel x } := by
  cases x <;> rfl

/-! ### The end of a warm-up (R198) -/

/-- What a wake raises. -/
def wakeNotice (source : Option WakeSource) : List (NoticeKind × Subject × Half) :=
  match source with
  | some w => [(.wake, .absent, half (wakeSourceCode w))]
  | none => []

/-- What a warm-up that found no reference raises. -/
def lossNotice (source : ClockSource) : List (NoticeKind × Subject × Half) :=
  if source = .fallback then [(.clockLoss, .absent, 1)] else []

theorem noteWake_posts (w : Option WakeSource) (s : State) : Posts s (wakeNotice w) (noteWake w s) := by
  cases w with
  | none => exact .nil rfl rfl rfl
  | some w => exact Posts.raise _ _ _ _ (.nil rfl rfl rfl)

theorem noteNoReference_posts (s : State) :
    Posts s (lossNotice s.control.clock) (noteNoReference s) := by
  unfold noteNoReference lossNotice
  split
  · exact Posts.raise _ _ _ _ (.nil rfl rfl rfl)
  · exact .nil rfl rfl rfl

/-- The state a warm-up ends in, but for its notices and the locks. -/
def started (s : State) : State :=
  let u := judgeClock (if s.control.wakeSource.isSome then wakeValues s else s)
  u.setControl { u.control with mode := .run, timebase := 0, warmupLeft := 0, wakeSource := none }

theorem noteStart_eq (w : Option WakeSource) (s : State) :
    noteNoReference (noteWake w s) = s.setNotices (noteNoReference (noteWake w s)).notices := by
  unfold noteNoReference
  cases w <;> split <;> rfl

theorem endWarmup_eq (s : State) : endWarmup s = (shortsLocked (started s)).setNotices (endWarmup s).notices := by
  have notes := noteStart_eq s.control.wakeSource (started s)
  refine (judgeLocks_eq (noteNoReference (noteWake s.control.wakeSource (started s)))).trans ?_
  show (shortsLocked (noteNoReference _)).setNotices (endWarmup s).notices = _
  generalize (endWarmup s).notices = n
  rw [notes]
  rfl

theorem started_of_asleep {s : State} (awake : s.control.wakeSource.isSome = false) :
    started s = { s with
      control := { s.control with
        mode := .run, timebase := 0, warmupLeft := 0, wakeSource := none
        clock := if s.control.refCount = 1024 then .reference else .fallback }
      fueling := { s.fueling with
        clockCut := (if s.control.refCount = 1024 then ClockSource.reference else .fallback) == .fallback } } := by
  unfold started
  rw [awake]
  rfl

theorem started_of_woken {s : State} (woken : s.control.wakeSource.isSome = true) :
    started s = { wakeValues s with
      control := { s.control with
        mode := .run, timebase := 0, warmupLeft := 0, wakeSource := none
        clock := if s.control.refCount = 1024 then .reference else .fallback }
      fueling := { (wakeValues s).fueling with
        clockCut := (if s.control.refCount = 1024 then ClockSource.reference else .fallback) == .fallback } } := by
  unfold started
  rw [woken]
  rfl

/-- What a warm-up leaves as it was, whether it follows a wake or a reset. -/
theorem started_kept (s : State) :
    (started s).control = { s.control with
      mode := .run, timebase := 0, warmupLeft := 0, wakeSource := none
      clock := if s.control.refCount = 1024 then .reference else .fallback } ∧
    (started s).fueling.clockCut = decide ((if s.control.refCount = 1024 then ClockSource.reference else .fallback) = .fallback) ∧
    (started s).fueling.armed = s.fueling.armed ∧ (started s).store = s.store ∧
    (started s).queue.captures = s.queue.captures ∧ (started s).queue.limits = s.queue.limits ∧
    (started s).pins = s.pins ∧ (started s).notices = s.notices ∧ (started s).tracker.cycle = s.tracker.cycle ∧
    (∀ x, ((started s).drive x).locked = (s.drive x).locked ∧ ((started s).drive x).tree = (s.drive x).tree) := by
  cases woken : s.control.wakeSource.isSome with
  | false =>
    rw [started_of_asleep woken]
    exact ⟨rfl, beq_eq_decide _ _, rfl, rfl, rfl, rfl, rfl, rfl, rfl, fun x => by cases x <;> exact ⟨rfl, rfl⟩⟩
  | true =>
    rw [started_of_woken woken]
    exact ⟨rfl, beq_eq_decide _ _, rfl, rfl, rfl, rfl, rfl, rfl, rfl, fun x => by cases x <;> exact ⟨rfl, rfl⟩⟩

theorem endWarmup_posts (s : State) :
    Posts (started s) ((wakeNotice s.control.wakeSource ++ lossNotice (started s).control.clock) ++
      (shortNotice .a (started s) ++ shortNotice .b (started s))) (endWarmup s) := by
  have woke := noteWake_posts s.control.wakeSource (started s)
  have lost := noteNoReference_posts (noteWake s.control.wakeSource (started s))
  have shorts := judgeLocks_posts (noteNoReference (noteWake s.control.wakeSource (started s)))
  have clock : (noteWake s.control.wakeSource (started s)).control = (started s).control :=
    (noteWake_quiet _ _).control
  have kept (x : Bank) : shortNotice x (noteNoReference (noteWake s.control.wakeSource (started s))) =
      shortNotice x (started s) := by
    rw [noteStart_eq]
    cases x <;> rfl
  rw [clock] at lost
  rw [kept, kept] at shorts
  exact (woke.trans lost).trans shorts

/-- The notices of a warm-up's end, in the order of R198. -/
def warmupNotices (s : State) : List (NoticeKind × Subject × Half) :=
  (wakeNotice s.control.wakeSource ++ lossNotice (if s.control.refCount = 1024 then .reference else .fallback)) ++
    (shortNotice .a s ++ shortNotice .b s)

theorem wakeNotice_single (w : Option WakeSource) :
    (wakeNotice w).length ≤ 1 ∧ ∀ n ∈ wakeNotice w, n.1 = .wake := by
  cases w <;> simp [wakeNotice]

theorem lossNotice_single (c : ClockSource) :
    (lossNotice c).length ≤ 1 ∧ ∀ n ∈ lossNotice c, n.1 = .clockLoss := by
  cases c <;> simp [lossNotice]

theorem shortNotice_single (x : Bank) (s : State) :
    (shortNotice x s).length ≤ 1 ∧ ∀ n ∈ shortNotice x s, n.1 = .bankShort := by
  unfold shortNotice
  split <;> simp

theorem warmupNotices_length (s : State) : (warmupNotices s).length ≤ 4 := by
  have woke := (wakeNotice_single s.control.wakeSource).1
  have lost := (lossNotice_single (if s.control.refCount = 1024 then .reference else .fallback)).1
  have a := (shortNotice_single .a s).1
  have b := (shortNotice_single .b s).1
  simp only [warmupNotices, List.length_append]
  omega

theorem warmupNotices_kinds {s : State} : ∀ n ∈ warmupNotices s, n.1 = .wake ∨ n.1 = .clockLoss ∨ n.1 = .bankShort := by
  intro n member
  simp only [warmupNotices, List.mem_append] at member
  rcases member with (woke | lost) | a | b
  · exact .inl ((wakeNotice_single _).2 n woke)
  · exact .inr (.inl ((lossNotice_single _).2 n lost))
  · exact .inr (.inr ((shortNotice_single .a s).2 n a))
  · exact .inr (.inr ((shortNotice_single .b s).2 n b))

/-- The notices join the queue while there is room for them and WAKE is reported (R181, R198). -/
theorem endWarmup_queue {s : State} (room : s.notices.queue.length ≤ 28) (reported : s.notices.mask.getLsbD 17 = true) :
    (endWarmup s).notices.queue = s.notices.queue ++ (warmupNotices s).map
      (fun n => { kind := n.1, subject := n.2.1, cycle := s.tracker.cycle, detail := n.2.2, timestamp := 0 }) := by
  obtain ⟨control, -, -, -, -, -, pins, notices, cycle, banks⟩ := started_kept s
  have posts := endWarmup_posts s
  have clock : (started s).control.clock = if s.control.refCount = 1024 then .reference else .fallback := by rw [control]
  have shorts (x : Bank) : shortNotice x (started s) = shortNotice x s := by
    have level : (started s).shortLevel x = s.shortLevel x := by cases x <;> simp only [State.shortLevel, pins]
    simp only [shortNotice, level, (banks x).1]
  have stamped : noticed (started s) = fun n =>
      { kind := n.1, subject := n.2.1, cycle := s.tracker.cycle, detail := n.2.2, timestamp := 0 } := funext fun n => by
    simp only [noticed, cycle, State.now, control]
  rw [clock, shorts, shorts] at posts
  have joins := posts.queue (fun n member => ?offered) ?room
  case offered =>
    rw [notices, offered_iff]
    rcases warmupNotices_kinds (s := s) n member with kind | kind | kind
    · exact .inr (.inr (kind ▸ reported))
    · exact .inl (kind ▸ rfl)
    · exact .inl (kind ▸ rfl)
  case room =>
    rw [notices]
    exact Nat.le_trans (Nat.add_le_add room (warmupNotices_length s)) (by decide)
  rw [notices, stamped] at joins
  exact joins

/-- Settles O51: the pin reset and its release by evaluation; the end of a warm-up from the state it starts RUN in, the
locks, and the row of notices. -/
theorem pinResetAndWarmupEndStartTheRun : Obligations.PinResetAndWarmupEndStartTheRun := by
  refine ⟨fun s => ⟨rfl, rfl⟩, fun s warmup high => ?_⟩
  have exec_eq : exec .warmupEnd s = .next (endWarmup s) := congrArg Host.Outcome.next (if_pos (by rw [warmup, high]; rfl))
  obtain ⟨control, cut, armed, store, captures, limits, pins, notices, cycle, banks⟩ := started_kept s
  have locks (x : Bank) : (endWarmup s).drive x =
      { (started s).drive x with locked := (s.drive x).locked || s.shortLevel x } := by
    have shorts : (started s).shortLevel x = s.shortLevel x := by cases x <;> simp only [State.shortLevel, pins]
    rw [endWarmup_eq, ← (banks x).1, ← shorts]
    exact (show ((shortsLocked (started s)).setNotices _).drive x = (shortsLocked (started s)).drive x by
      cases x <;> rfl).trans (shortsLocked_drive _ _)
  refine ⟨endWarmup s, exec_eq, ?_, ?_, ?_, ?_, ?_, ?_, ?_, fun x => ?locked, fun asleep => ?kept, fun woken => ?woken,
    fun room reported => ?notes⟩
  case locked =>
    rw [locks]
    exact ⟨rfl, (banks x).2⟩
  case kept =>
    rw [endWarmup_eq, started_of_asleep asleep]
    exact ⟨rfl, rfl, rfl, rfl⟩
  case woken =>
    have idle (x : Bank) : (started s).drive x = (s.drive x).idle := by
      rw [started_of_woken woken]
      cases x <;> rfl
    refine ⟨?_, ?_, ?_, ?_, fun x => ?_, fun c => ?_, ?_⟩
    case refine_5 =>
      rw [locks, idle]
      exact ⟨rfl, rfl, rfl, rfl⟩
    case refine_6 =>
      rw [endWarmup_eq, started_of_woken woken]
      exact Eight.get_map _ _ _
    all_goals
      rw [endWarmup_eq, started_of_woken woken]
      rfl
  case notes =>
    refine (endWarmup_queue room reported).trans ?_
    unfold warmupNotices
    rw [← List.append_assoc]
    refine congrArg (fun l => _ ++ List.map _ l) (congrArg (fun l => ((l ++ _) ++ _) ++ _) ?_)
    cases s.control.wakeSource with
    | none => rfl
    | some w => cases w <;> rfl
  all_goals rw [endWarmup_eq]
  · exact control
  · exact cut
  · exact armed
  · exact store
  · exact captures
  · exact limits
  · exact pins

end Sys2Proof.Machine

/-! PROOFS. Pulses that an order ends: the reverse edge (R141), ENTER_STANDBY (R195) and SOFT_RESET (R143) each end a
list of driving requests, one after the other. -/

namespace Sys2Proof.Machine

open Sys2Proof.Safety

/-! ### One pulse ended -/

/-- The outputs of a bank off, and its recharge begun now when `charges`. -/
def offDrive (charges : Bool) (s : State) (x : Bank) : DriveBank :=
  { s.drive x with
    boostOut := false, holdOut := false, pulse := none
    charge := if charges then .charging (some (later s.now s.queue.limits.recharge)) else (s.drive x).charge }

/-- A cylinder whose last pulse ends now, with no flush pending. -/
def endedCyl (s : State) (c : Cylinder) : CylState := { s.cyl c with lastEnd := some s.now, flushPending := false }

/-- The state once the pulse of a request has ended and the request has left, the Notice Unit apart. -/
def ended (charges : Bool) (o : Request) (s : State) : State :=
  { s.setDrive o.bank (offDrive charges s o.bank) with
    sel := s.sel.set o.cylinder false
    table := { s.table with cyls := s.table.cyls.set o.cylinder (endedCyl s o.cylinder) }
    queue := { s.queue with requests := s.queue.requests.erase o } }

theorem abortByReverse_eq (o : Request) (s : State) :
    abortByReverse o s = (ended (o.state == .boost) o s).setNotices (abortByReverse o s).notices := by
  have off : rechargeIfBoost o.bank o s.now (outputsOff o.bank o.cylinder s) =
      State.setDrive { s with sel := s.sel.set o.cylinder false } o.bank (offDrive (o.state == .boost) s o.bank) := by
    rw [rechargeIfBoost_outputsOff]
    simp only [offDrive, beq_iff_eq]
    rfl
  have unnoted : abortByReverse o s = (removeRequest o (reportEnd o.cylinder s.now 2
      (rechargeIfBoost o.bank o s.now (outputsOff o.bank o.cylinder s)))).setNotices (abortByReverse o s).notices := rfl
  rw [unnoted]
  generalize (abortByReverse o s).notices = n
  rw [off, reportEnd_eq]
  cases bank : o.bank <;> dsimp only <;> split <;> simp only [ended, bank] <;> rfl

theorem standbyEnd_eq (o : Request) (s : State) :
    dropRequest .aborted o (reportEnd o.cylinder s.now 2 (outputsOff o.bank o.cylinder s)) =
      (ended false o s).setNotices
        (dropRequest .aborted o (reportEnd o.cylinder s.now 2 (outputsOff o.bank o.cylinder s))).notices := by
  have unnoted : dropRequest .aborted o (reportEnd o.cylinder s.now 2 (outputsOff o.bank o.cylinder s)) =
      (removeRequest o (reportEnd o.cylinder s.now 2 (outputsOff o.bank o.cylinder s))).setNotices
        (dropRequest .aborted o (reportEnd o.cylinder s.now 2 (outputsOff o.bank o.cylinder s))).notices := rfl
  rw [unnoted]
  generalize (dropRequest .aborted o _).notices = n
  rw [outputsOff_eq, reportEnd_eq]
  cases bank : o.bank <;> dsimp only <;> split <;> simp only [ended, bank] <;> rfl

/-- The abort of one request by SOFT_RESET (R143). -/
def softEnd (o : Request) (s : State) : State := countDrop .aborted (ended false o s)

theorem abortBySoftReset_eq (x : Bank) (s : State) :
    abortBySoftReset x s = (occupant x s).toList.foldl (fun t o => softEnd o t) s := by
  unfold abortBySoftReset
  cases found : occupant x s with
  | none => rfl
  | some o =>
    obtain ⟨-, bank, -⟩ := occupant_some found
    subst bank
    cases bank : o.bank <;> simp only [Option.toList, List.foldl, softEnd, ended, bank] <;> rfl

/-! ### A list of pulses ended -/

/-- From `s` to `t` the pulses of a list of requests have ended now, and the requests left; `charges` says which ends
begin a recharge. -/
structure Ends (charges : Request → Bool) (l : List Request) (s t : State) : Prop where
  quiet : Quiet s t
  queue : t.queue = { s.queue with requests := s.queue.requests.diff l }
  drive : ∀ x, t.drive x =
    if l.any (fun r => r.bank == x) then offDrive (l.any (fun r => r.bank == x && charges r)) s x else s.drive x
  sel : ∀ c, t.sel.get c = (s.sel.get c && !l.any (fun r => r.cylinder == c))
  cyl : ∀ c, t.cyl c = if l.any (fun r => r.cylinder == c) then endedCyl s c else s.cyl c

theorem any_and_of_any {α : Type} {l : List α} {p q : α → Bool} (none : l.any p = false) :
    l.any (fun a => p a && q a) = false := by
  rw [List.any_eq_false] at none ⊢
  exact fun a ha h => none a ha (Bool.and_eq_true_iff.mp h).1

theorem Ends.nil (charges : Request → Bool) (s : State) : Ends charges [] s s where
  quiet := .refl s
  queue := rfl
  drive := fun _ => rfl
  sel := fun _ => by simp
  cyl := fun _ => rfl

theorem Ends.one (charges : Request → Bool) (o : Request) (s : State) (n : NoticeUnit) :
    Ends charges [o] s ((ended (charges o) o s).setNotices n) where
  quiet := by cases bank : o.bank <;> simp only [ended, bank] <;> exact ⟨rfl, rfl, rfl, rfl, rfl, rfl, rfl, rfl, rfl, rfl, rfl, rfl, rfl⟩
  queue := by rw [List.diff_cons, List.diff_nil]; rfl
  drive := fun x => by
    simp only [List.any_cons, List.any_nil, Bool.or_false]
    cases bank : o.bank <;> cases x <;> simp only [ended, bank] <;> rfl
  sel := fun c => by
    have sel : ((ended (charges o) o s).setNotices n).sel = s.sel.set o.cylinder false := rfl
    rw [sel]
    by_cases same : o.cylinder = c
    · simp [same]
    · simp [Eight.get_set_other s.sel false (Ne.symm same), same]
  cyl := fun c => by
    have cyl : ((ended (charges o) o s).setNotices n).cyl c = (s.table.cyls.set o.cylinder (endedCyl s o.cylinder)).get c := rfl
    rw [cyl]
    by_cases same : o.cylinder = c
    · simp [same]
    · simp [Eight.get_set_other s.table.cyls _ (Ne.symm same), same, State.cyl]

theorem Ends.trans {charges : Request → Bool} {l m : List Request} {s t u : State} (h : Ends charges l s t)
    (g : Ends charges m t u) : Ends charges (l ++ m) s u where
  quiet := h.quiet.trans g.quiet
  queue := by rw [g.queue, h.queue, List.diff_append]
  drive := fun x => by
    rw [g.drive, offDrive, h.drive, h.quiet.now, h.quiet.limits, List.any_append, List.any_append]
    cases ends : l.any (fun r => r.bank == x) <;> cases ends' : m.any (fun r => r.bank == x)
    · rfl
    · simp only [any_and_of_any ends, Bool.false_or, Bool.false_eq_true, if_false, if_true]
      rfl
    · simp only [any_and_of_any ends', Bool.or_false, Bool.false_eq_true, if_false, if_true]
    · cases l.any (fun r => r.bank == x && charges r) <;> cases m.any (fun r => r.bank == x && charges r) <;> rfl
  sel := fun c => by rw [g.sel, h.sel, List.any_append, Bool.not_or, Bool.and_assoc]
  cyl := fun c => by
    rw [g.cyl, endedCyl, h.cyl, h.quiet.now, List.any_append]
    cases l.any (fun r => r.cylinder == c) <;> cases m.any (fun r => r.cylinder == c) <;> rfl

/-- A row of ends, each of one request. -/
theorem Ends.foldl {charges : Request → Bool} {f : Request → State → State}
    (one : ∀ o s, Ends charges [o] s (f o s)) (l : List Request) (s : State) :
    Ends charges l s (l.foldl (fun t o => f o t) s) := by
  induction l generalizing s with
  | nil => exact .nil charges s
  | cons o l ih => exact (one o s).trans (ih _)

theorem Ends.reverse (o : Request) (s : State) : Ends (fun r => r.state == .boost) [o] s (abortByReverse o s) := by
  rw [abortByReverse_eq]
  exact .one (fun r => r.state == .boost) o s _

theorem Ends.standby (o : Request) (s : State) : Ends (fun _ => false) [o] s
    (dropRequest .aborted o (reportEnd o.cylinder s.now 2 (outputsOff o.bank o.cylinder s))) := by
  rw [standbyEnd_eq]
  exact .one (fun _ => false) o s _

theorem Ends.soft (o : Request) (s : State) : Ends (fun _ => false) [o] s (softEnd o s) :=
  .one (fun _ => false) o s (softEnd o s).notices

/-- Ends that each count one drop under a reason (R185). -/
theorem foldl_dropCounts {q : DropReason} {f : Request → State → State}
    (one : ∀ o s c, (f o s).notices.dropCounts[reasonCode c] =
      if c = q then min 65535 (s.notices.dropCounts[reasonCode c] + 1) else s.notices.dropCounts[reasonCode c])
    (l : List Request) (s : State) (c : DropReason) :
    (l.foldl (fun t o => f o t) s).notices.dropCounts[reasonCode c] =
      if c = q ∧ l ≠ [] then min 65535 (s.notices.dropCounts[reasonCode c] + l.length)
      else s.notices.dropCounts[reasonCode c] := by
  induction l generalizing s with
  | nil => simp
  | cons o l ih =>
    rw [List.foldl_cons, ih, one]
    by_cases hc : c = q
    · by_cases hl : l = []
      · simp [hc, hl]
      · simp only [hc, hl, ne_eq, not_false_eq_true, and_self, if_true, reduceCtorEq, List.length_cons]
        omega
    · simp [hc]

/-! ### The driving requests and the others -/

/-- Without its driving requests a queue holds the others, in their order. -/
theorem diff_filter (p : Request → Bool) (l : List Request) : l.diff (l.filter p) = l.filter (fun r => !p r) := by
  induction l with
  | nil => rfl
  | cons r l ih =>
    by_cases h : p r = true
    · rw [List.filter_cons_of_pos h, List.diff_cons, List.erase_cons_head, ih, List.filter_cons_of_neg (by simp [h])]
    · rw [List.filter_cons_of_neg h, List.cons_diff_of_not_mem (fun mem => h (List.mem_filter.mp mem).2), ih,
        List.filter_cons_of_pos (by simp [h])]

/-- The driving requests of the two banks are those of the queue (R199). -/
theorem drivers_perm (s : State) : (drivers .a s ++ drivers .b s).Perm (driven s) := by
  have other : drivers .b s = (driven s).filter (fun r => !(r.bank == .a)) := by
    rw [drivers_eq]
    exact List.filter_congr fun r _ => by cases r.bank <;> rfl
  rw [other, drivers_eq]
  exact List.filter_append_perm _ _

theorem occupant_toList {x : Bank} {s : State} (single : (drivers x s).length ≤ 1) :
    (occupant x s).toList = drivers x s := by
  rw [occupant_eq_head?_drivers]
  generalize drivers x s = l at single
  cases l with
  | nil => rfl
  | cons o l =>
    have empty : l = [] := List.eq_nil_of_length_eq_zero (Nat.le_zero.mp (Nat.le_of_succ_le_succ single))
    rw [empty]
    rfl

/-- With an empty queue an auction changes nothing. -/
theorem auction_of_empty {s : State} (empty : s.queue.requests = []) (x : Bank) : auction x s = s := by
  have vacant : occupant x s = none := by rw [occupant, empty]; rfl
  have none : candidates x s = [] := by
    unfold candidates waiting
    rw [empty]
    split <;> rfl
  unfold auction
  split
  · rfl
  · simp only [judgeTruncation_of_no_occupant vacant, none, chooseAmong_nil]

end Sys2Proof.Machine

/-! PROOFS. The reverse edge (R25, R26, R141). -/

namespace Sys2Proof.Machine

open Sys2Proof.Safety

/-! ### The notices of the aborts -/

/-- Two states in which ends and drops leave the same record: they agree in the Notice Unit, in the cycle number and the
angle that a notice carries, in the time, and in the cylinders, whose pending flushes an end completes. -/
structure SameRecord (s t : State) : Prop where
  notices : s.notices = t.notices
  cycle : s.tracker.cycle = t.tracker.cycle
  angle : ∀ stamp, s.tracker.angleAt stamp = t.tracker.angleAt stamp
  now : s.now = t.now
  cyls : s.table.cyls = t.table.cyls

theorem SameRecord.raise {s t : State} (h : SameRecord s t) (k : NoticeKind) (sub : Subject) (bank : Option Bank)
    (d : Half) : SameRecord (raise k sub bank d s) (Machine.raise k sub bank d t) where
  notices := by simp only [Machine.raise, raiseAt_notices, faultOf, noticeOf, h.notices, h.cycle, h.angle, h.now]
  cycle := h.cycle
  angle := h.angle
  now := h.now
  cyls := h.cyls

theorem SameRecord.reportEnd {s t : State} (h : SameRecord s t) (c : Cylinder) (stamp : Time) (d : Nat) :
    SameRecord (reportEnd c stamp d s) (Machine.reportEnd c stamp d t) := by
  have cyl : s.cyl c = t.cyl c := congrArg (fun e => e.get c) h.cyls
  have set : SameRecord (s.setCyl c { s.cyl c with lastEnd := some stamp, flushPending := false })
      (t.setCyl c { t.cyl c with lastEnd := some stamp, flushPending := false }) :=
    ⟨h.notices, h.cycle, h.angle, h.now, by simp only [State.setCyl_table, h.cyls, cyl]⟩
  rw [reportEnd_eq, reportEnd_eq, cyl]
  rw [cyl] at set
  dsimp only
  split
  · exact set.raise _ _ _ _
  · exact set

theorem SameRecord.noteDrop {s t : State} (h : SameRecord s t) (q : DropReason) (r : Request) :
    SameRecord (noteDrop q r s) (Machine.noteDrop q r t) := by
  have counted : SameRecord (countDrop q s) (countDrop q t) :=
    ⟨by simp only [countDrop, h.notices], h.cycle, h.angle, h.now, h.cyls⟩
  exact counted.raise _ _ _ _

theorem SameRecord.noteDrops {s t : State} (h : SameRecord s t) (q : DropReason) (l : List Request) :
    SameRecord (l.foldl (fun u r => Machine.noteDrop q r u) s) (l.foldl (fun u r => Machine.noteDrop q r u) t) := by
  induction l generalizing s t with
  | nil => exact h
  | cons r l ih => exact ih (h.noteDrop q r)

/-- An abort leaves the record of its end and of its drop. -/
theorem SameRecord.abortByReverse {s t : State} (h : SameRecord s t) (r : Request) :
    SameRecord (abortByReverse r s) (Machine.noteDrop .reverse r (Machine.reportEnd r.cylinder t.now 2 t)) := by
  have off : SameRecord (rechargeIfBoost r.bank r s.now (outputsOff r.bank r.cylinder s)) t := by
    rw [rechargeIfBoost_outputsOff]
    refine ⟨?_, ?_, fun stamp => ?_, ?_, ?_⟩ <;> simp only [State.setDrive_notices, State.setDrive_tracker,
      State.setDrive_now, State.setDrive_table]
    · exact h.notices
    · exact h.cycle
    · exact h.angle stamp
    · exact h.now
    · exact h.cyls
  have reported := off.reportEnd r.cylinder s.now 2
  rw [← h.now]
  exact SameRecord.noteDrop (s := removeRequest r _)
    ⟨reported.notices, reported.cycle, reported.angle, reported.now, reported.cyls⟩ .reverse r

theorem SameRecord.abortsByReverse {s t : State} (h : SameRecord s t) {now : Time} (hnow : t.now = now)
    (l : List Request) :
    SameRecord (l.foldl (fun u r => Machine.abortByReverse r u) s)
      (l.foldl (fun u r => Machine.noteDrop .reverse r (Machine.reportEnd r.cylinder now 2 u)) t) := by
  induction l generalizing s t with
  | nil => exact h
  | cons r l ih =>
    have one := h.abortByReverse r
    rw [hnow] at one
    exact ih one ((reportEnd_quiet r.cylinder now 2 t).now.trans hnow)

@[simp] theorem reportEnd_dropCounts (c : Cylinder) (t : Time) (d : Nat) (s : State) :
    (reportEnd c t d s).notices.dropCounts = s.notices.dropCounts := by
  rw [reportEnd_eq]
  dsimp only
  split
  · exact raiseAt_dropCounts _ _ _ _ _ _
  · rfl

theorem abortByReverse_dropCounts (o : Request) (s : State) (c : DropReason) :
    (abortByReverse o s).notices.dropCounts[reasonCode c] =
      if c = .reverse then min 65535 (s.notices.dropCounts[reasonCode c] + 1) else s.notices.dropCounts[reasonCode c] := by
  have kept : (removeRequest o (abortBegin o.bank o s)).notices.dropCounts = s.notices.dropCounts := by
    refine (reportEnd_dropCounts o.cylinder s.now 2 _).trans ?_
    rw [rechargeIfBoost_outputsOff, State.setDrive_notices]
  rw [abortByReverse, dropRequest, noteDrop_dropCounts]
  simp only [kept]

/-! ### The REVERSE order -/

/-- The state after the driving requests have been aborted. -/
def reverseAborts (s : State) : State := (driven s).foldl (fun t r => abortByReverse r t) s

theorem reverseAborts_ends (s : State) : Ends (fun r => r.state == .boost) (driven s) s (reverseAborts s) :=
  Ends.foldl Ends.reverse _ _

theorem reverseAborts_requests (s : State) :
    (reverseAborts s).queue.requests = s.queue.requests.filter (fun r => !driving r.state) := by
  rw [(reverseAborts_ends s).queue]
  exact diff_filter _ _

/-- The aborts empty the queue of its driving requests and the drop order of the others; the auctions find an empty
queue. -/
theorem reverseOrder_eq (s : State) :
    reverseOrder s = ((reverseAborts s).setRequests []).setNotices (dropNonDriving .reverse (reverseAborts s)).notices := by
  have dropped : dropNonDriving .reverse (reverseAborts s) =
      ((reverseAborts s).setRequests []).setNotices (dropNonDriving .reverse (reverseAborts s)).notices := by
    have none : (reverseAborts s).queue.requests.filter (fun r => driving r.state) = [] := by
      rw [reverseAborts_requests, List.filter_filter]
      simp
    exact (dropNonDriving_frame _ _).trans (by rw [none])
  have idle (l : List Request) (u : State) (empty : u.queue.requests = []) : l.foldl (fun t r => auction r.bank t) u = u := by
    induction l with
    | nil => rfl
    | cons r l ih => rw [List.foldl_cons, auction_of_empty empty, ih]
  have emptied : (dropNonDriving .reverse (reverseAborts s)).queue.requests = [] := by
    rw [dropped]
    rfl
  exact (idle (driven s) _ emptied).trans dropped

theorem reverseOrder_notices {s t : State} (same : SameRecord s t) (requests : s.queue.requests = t.queue.requests) :
    (reverseOrder s).notices =
      ((t.queue.requests.filter (fun r => !driving r.state)).foldl (fun u r => noteDrop .reverse r u)
        ((t.queue.requests.filter (fun r => driving r.state)).foldl
          (fun u r => noteDrop .reverse r (reportEnd r.cylinder t.now 2 u)) t)).notices := by
  have notices : (reverseOrder s).notices = (dropNonDriving .reverse (reverseAborts s)).notices := by
    rw [reverseOrder_eq]
    rfl
  rw [notices, dropNonDriving_notices, reverseAborts_requests, List.filter_filter, ← requests]
  simp only [Bool.and_self]
  exact ((same.abortsByReverse rfl (driven s)).noteDrops .reverse _).notices

theorem reverseOrder_dropCounts (s : State) (q : DropReason) :
    (reverseOrder s).notices.dropCounts[reasonCode q] = if q = .reverse ∧ s.queue.requests ≠ [] then
      min 65535 (s.notices.dropCounts[reasonCode q] + s.queue.requests.length)
      else s.notices.dropCounts[reasonCode q] := by
  have notices : (reverseOrder s).notices = (dropNonDriving .reverse (reverseAborts s)).notices := by
    rw [reverseOrder_eq]
    rfl
  have length : s.queue.requests.length = (driven s).length +
      (s.queue.requests.filter (fun r => !driving r.state)).length :=
    List.length_eq_length_filter_add _
  rw [notices, dropNonDriving_notices, reverseAborts_requests, List.filter_filter, noteDrops_dropCounts]
  simp only [Bool.and_self]
  rw [reverseAborts, foldl_dropCounts abortByReverse_dropCounts]
  simp only [ne_eq, ← List.length_eq_zero_iff]
  by_cases reverse : q = .reverse
  · simp only [reverse, true_and]
    split_ifs <;> omega
  · simp only [reverse, false_and, if_false]

theorem any_beq_iff {α β : Type} [DecidableEq β] {f : α → β} {l : List α} {x : β} :
    l.any (fun a => f a == x) = true ↔ ∃ a ∈ l, f a = x := by
  simp only [List.any_eq_true, beq_iff_eq]

theorem offDrive_boost (l : List Request) (s : State) (x : Bank)
    [Decidable (∃ r ∈ l, r.bank = x ∧ r.state = .boost)] :
    offDrive (l.any (fun r => r.bank == x && r.state == .boost)) s x = { s.drive x with
      boostOut := false, holdOut := false, pulse := none
      charge := if ∃ r ∈ l, r.bank = x ∧ r.state = .boost then
        .charging (some (s.control.timebase + BitVec.ofNat 32 s.queue.limits.recharge)) else (s.drive x).charge } := by
  have charges : l.any (fun r => r.bank == x && r.state == .boost) = true ↔ ∃ r ∈ l, r.bank = x ∧ r.state = .boost := by
    simp only [List.any_eq_true, Bool.and_eq_true, beq_iff_eq]
  simp only [offDrive, charges]
  rfl

/-- What is quiet changes the Firing Table's cylinders at most. -/
theorem Quiet.table {s t : State} (h : Quiet s t) : t.table = { s.table with cyls := t.table.cyls } := by
  dsimp only
  rw [← h.ring, ← h.planLead, ← h.maskThreshold, ← h.planPoints]

/-! ### The edge -/

theorem exec_crankTrailingEdge {s : State} (running : s.running = true) :
    exec .crankTrailingEdge s = .next (trailingEdge s.now s) :=
  congrArg Host.Outcome.next (if_pos running)

/-- Settles O44: the width judged, and the state REVERSE is raised in: the tracker's new values on what the REVERSE order
leaves. -/
theorem reverseEdgeEmptiesTheQueue : Obligations.ReverseEdgeEmptiesTheQueue := by
  intro s running
  rw [exec_crankTrailingEdge running]
  refine ⟨fun idle => ?_, fun start measured => ?_⟩
  · rw [trailingEdge, idle]
  have judged : trailingEdge s.now s =
      if s.tracker.wheel.dirThreshold ≤ elapsed start s.now && s.tracker.sync != .stopped then
        reverseEdge s.now (s.setTracker { s.tracker with pulseStart := none })
      else s.setTracker { s.tracker with pulseStart := none } := by
    rw [trailingEdge, measured]
    rfl
  refine ⟨fun forward => ?_, fun wide turning => ?_⟩
  · refine congrArg Host.Outcome.next (judged.trans (if_neg ?_))
    rw [Bool.and_eq_true, decide_eq_true_iff, bne_iff_ne]
    rintro ⟨wide, turning⟩
    exact forward.elim (Nat.not_lt.mpr wide) turning
  let u : State := s.setTracker { s.tracker with pulseStart := none }
  let v : State := (reverseOrder u).setTracker ({ (reverseOrder u).tracker with
    sync := .seeking, lastEdge := none, history := .empty, toothIndex := none, revolution := none, seek := .empty
    camHistory := (reverseOrder u).tracker.camHistory.noConflict }.stallFrom s.now)
  have ends := reverseAborts_ends u
  have quiet := reverseOrder_quiet u
  have order := reverseOrder_eq u
  have same : SameRecord u s := ⟨rfl, rfl, fun _ => rfl, rfl, rfl⟩
  refine ⟨_, v, congrArg Host.Outcome.next (judged.trans (if_pos ?_)), rfl, ?_, ?_, fun x => ?_, fun c => ⟨?_, ?_⟩, ?_,
    fun q => ?_, ?_, quiet.link, quiet.store, quiet.fueling, quiet.control, quiet.pins⟩
  · rw [Bool.and_eq_true, decide_eq_true_iff, bne_iff_ne]
    exact ⟨wide, turning⟩
  · show (reverseOrder u).queue = _
    rw [order]
    show ({ (reverseAborts u).queue with requests := [] } : PulseQueue) = _
    rw [ends.queue]
    rfl
  · show ({ (reverseOrder u).tracker with
      sync := .seeking, lastEdge := none, history := .empty, toothIndex := none, revolution := none, seek := .empty
      camHistory := (reverseOrder u).tracker.camHistory.noConflict }.stallFrom s.now) = _
    rw [quiet.tracker]
    rfl
  · have drive : v.drive x = (reverseAborts u).drive x := by
      show (reverseOrder u).drive x = _
      rw [order]
      cases x <;> rfl
    rw [drive, ends.drive]
    refine if_congr any_beq_iff ?_ rfl
    exact offDrive_boost (driven u) u x
  · show (reverseOrder u).sel.get c = _
    rw [order]
    exact ends.sel c
  · show (reverseOrder u).cyl c = _
    rw [order]
    refine (ends.cyl c).trans (if_congr any_beq_iff rfl rfl)
  · exact reverseOrder_notices same rfl
  · exact reverseOrder_dropCounts u q
  · show (reverseOrder u).table = { s.table with cyls := (reverseOrder u).table.cyls }
    exact quiet.table

end Sys2Proof.Machine

/-! PROOFS. ENTER_STANDBY (R195, R196). -/

namespace Sys2Proof.Machine

open Sys2Proof.Safety

/-! ### The occupants of both banks -/

/-- The occupants of the two banks, bank A's first. -/
def occupants (s : State) : List Request := (occupant .a s).toList ++ (occupant .b s).toList

theorem occupants_eq {s : State} (follow : OutputsFollow s) : occupants s = drivers .a s ++ drivers .b s := by
  rw [occupants, occupant_toList (follow.oneOfBank .a), occupant_toList (follow.oneOfBank .b)]

theorem occupants_perm {s : State} (follow : OutputsFollow s) : (occupants s).Perm (driven s) := by
  rw [occupants_eq follow]
  exact drivers_perm s

/-- The occupant of bank B is the one before bank A's left. -/
theorem occupant_b_of_ends {charges : Request → Bool} {s t : State} (ends : Ends charges (occupant .a s).toList s t) :
    occupant .b t = occupant .b s := by
  have requests : t.queue.requests = s.queue.requests.diff (occupant .a s).toList := by rw [ends.queue]
  cases found : occupant .a s with
  | none =>
    rw [found] at requests
    rw [occupant, requests]
    rfl
  | some o =>
    obtain ⟨-, bank, -⟩ := occupant_some found
    have elsewhere : o ∉ drivers .b s := fun mem => by simpa [bank] using (List.mem_filter.mp mem).2
    rw [found, Option.toList, List.diff_cons, List.diff_nil] at requests
    rw [occupant_eq_head?_drivers, occupant_eq_head?_drivers]
    have same : drivers .b t = (drivers .b s).erase o := by
      rw [drivers, requests]
      exact List.erase_filter.symm
    rw [same, List.erase_of_not_mem elsewhere]

/-! ### The pulses ended by ENTER_STANDBY -/

/-- The end of one request's pulse by ENTER_STANDBY (R195). -/
def standbyEnd (o : Request) (s : State) : State :=
  dropRequest .aborted o (reportEnd o.cylinder s.now 2 (outputsOff o.bank o.cylinder s))

theorem abortByStandby_eq (x : Bank) (s : State) :
    abortByStandby x s = (occupant x s).toList.foldl (fun t o => standbyEnd o t) s := by
  unfold abortByStandby
  cases found : occupant x s with
  | none => rfl
  | some o =>
    obtain ⟨-, bank, -⟩ := occupant_some found
    subst bank
    rfl

theorem standbyAborts_eq (s : State) : standbyAborts s = (occupants s).foldl (fun t o => standbyEnd o t) s := by
  have first : Ends (fun _ => false) (occupant .a s).toList s (abortByStandby .a s) := by
    rw [abortByStandby_eq]
    exact Ends.foldl Ends.standby _ _
  rw [standbyAborts, abortByStandby_eq .b, occupant_b_of_ends first, abortByStandby_eq .a, occupants, List.foldl_append]

theorem standbyAborts_ends (s : State) : Ends (fun _ => false) (occupants s) s (standbyAborts s) := by
  rw [standbyAborts_eq]
  exact Ends.foldl Ends.standby _ _

/-- With no flush pending an end raises nothing: only the drops leave a record. -/
theorem standbyEnds_notices {s t : State} (same : SameNotes s t) (still : ∀ c, (s.cyl c).flushPending = false)
    (l : List Request) :
    (l.foldl (fun u o => standbyEnd o u) s).notices = (l.foldl (fun u o => noteDrop .aborted o u) t).notices := by
  induction l generalizing s t with
  | nil => exact same.notices
  | cons o l ih =>
    have reported : SameNotes (reportEnd o.cylinder s.now 2 (outputsOff o.bank o.cylinder s)) s := by
      have pending : ((outputsOff o.bank o.cylinder s).cyl o.cylinder).flushPending = false := by
        rw [outputsOff_eq, State.setDrive_cyl]
        exact still o.cylinder
      rw [reportEnd, pending, outputsOff_eq]
      cases o.bank <;> exact ⟨rfl, rfl, rfl⟩
    have noted : SameNotes (standbyEnd o s) (noteDrop .aborted o t) :=
      SameNotes.noteDrop (s := removeRequest o _) ⟨reported.notices.trans same.notices,
        reported.tracker.trans same.tracker, reported.now.trans same.now⟩ .aborted o
    refine ih noted fun c => ?_
    have cyl : (standbyEnd o s).cyl c = _ := (Ends.standby o s).cyl c
    show ((standbyEnd o s).cyl c).flushPending = false
    rw [cyl]
    split
    · rfl
    · exact still c

/-! ### ENTER_STANDBY -/

/-- The state RUN is left in (R195, R196), with the byte of the reply. -/
def leftRun (s : State) : State × Byte :=
  let u := quietLink (standbyAborts s)
  if bounces u then (beginWarmup (some .bounce) u, 1) else (u.setControl { u.control with mode := .standby }, 0)

theorem ownEnterStandby_refused {s : State} (fails : standbyFailures s ≠ 0) :
    ownEnterStandby [] s = refuse s .wrongState [byte (standbyFailures s)] := by
  simp [ownEnterStandby, withLength, fails]

theorem ownEnterStandby_accepted {s : State} (passes : standbyFailures s = 0) :
    ownEnterStandby [] s = answerOk (leftRun s).1 [(leftRun s).2] := by
  have left : ownEnterStandby [] s = _ := if_neg (not_not.mpr passes)
  rw [left, leftRun, standbyAborts]
  dsimp only
  split <;> rfl

theorem standbyFailures_eq (s : State) :
    standbyFailures s = bit (decide (s.fueling.state ≠ .disarmed)) + 2 * bit (decide (s.tracker.sync ≠ .stopped)) +
      4 * bit (allCylinders.any (fun c => (s.cyl c).flushPending)) := by
  simp only [standbyFailures, anyFlushPending, bne, beq_eq_decide, decide_not]

theorem leftRun_control (s : State) :
    (leftRun s).1.control = (if s.control.wakeEnables.wakeLevel && s.pins.wake then { s.control with
        mode := .warmup, timebase := 0, refCount := 0, wakeSource := some .bounce
        warmupLeft := warmupTu s.control.warmupSel }
      else { s.control with mode := .standby }) ∧
    (leftRun s).2 = if s.control.wakeEnables.wakeLevel && s.pins.wake then 1 else 0 := by
  have quiet := (standbyAborts_ends s).quiet
  have control : (quietLink (standbyAborts s)).control = s.control := quiet.control
  have pins : (quietLink (standbyAborts s)).pins = s.pins := quiet.pins
  have judged : bounces (quietLink (standbyAborts s)) = (s.control.wakeEnables.wakeLevel && s.pins.wake) := by
    rw [bounces, control, pins]
  unfold leftRun
  dsimp only
  rw [judged]
  split
  · exact ⟨by simp only [beginWarmup, control], rfl⟩
  · exact ⟨by simp only [State.setControl_control, control], rfl⟩

/-- Beside the mode control and the link, RUN is left as the aborts leave it. -/
theorem leftRun_rest (s : State) :
    (leftRun s).1 = { standbyAborts s with
      control := (leftRun s).1.control
      link := { (standbyAborts s).link with rx := [], rxCount := 0, turnaround := none } } := by
  unfold leftRun
  dsimp only
  split <;> rfl

theorem any_perm {α : Type} {l m : List α} (perm : l.Perm m) (p : α → Bool) : l.any p = m.any p := by
  rw [Bool.eq_iff_iff, List.any_eq_true, List.any_eq_true]
  simp only [perm.mem_iff]

/-- A bank that no request drives has its outputs off. -/
theorem Follows.vacant {l : List Request} {s : State} {x : Bank} (follows : Follows l s)
    (vacant : l.any (fun r => r.bank == x) = false) : offDrive false s x = s.drive x := by
  have boost := (follows.boost x).trans (any_and_of_any vacant)
  have hold := (follows.hold x).trans (any_and_of_any vacant)
  have pulse := Option.isSome_eq_false_iff.mp ((follows.pulse x).trans vacant)
  rw [Option.isNone_iff_eq_none] at pulse
  unfold offDrive
  generalize s.drive x = d at boost hold pulse
  obtain ⟨charge, locked, tree, waitMark, _, _, _⟩ := d
  simp only at boost hold pulse
  rw [boost, hold, pulse]
  rfl

/-- Ends of all the driving requests, without a recharge, leave each bank's outputs off. -/
theorem Ends.allOff {l : List Request} {s t : State} (ends : Ends (fun _ => false) l s t) (perm : l.Perm (driven s))
    (follows : Follows (driven s) s) (x : Bank) : t.drive x = offDrive false s x := by
  have none : l.any (fun r => r.bank == x && false) = false := by simp
  rw [ends.drive, none]
  split
  · rfl
  next vacant =>
    rw [any_perm perm, Bool.not_eq_true] at vacant
    exact (follows.vacant vacant).symm

theorem Eight.eq_all {α : Type} {e : Eight α} {a : α} (h : ∀ c, e.get c = a) : e = .all a := by
  obtain ⟨_, _, _, _, _, _, _, _⟩ := e
  simp only [Eight.all, Eight.mk.injEq]
  exact ⟨h .c1, h .c2, h .c3, h .c4, h .c5, h .c6, h .c7, h .c8⟩

/-- Ends of all the driving requests leave no cylinder selected. -/
theorem Ends.noneSelected {charges : Request → Bool} {l : List Request} {s t : State} (ends : Ends charges l s t)
    (perm : l.Perm (driven s)) (follows : Follows (driven s) s) : t.sel = .all false :=
  Eight.eq_all fun c => by rw [ends.sel, any_perm perm, follows.sel, Bool.and_not_self]

theorem flushPending_of_standbyFailures {s : State} (passes : standbyFailures s = 0) (c : Cylinder) :
    (s.cyl c).flushPending = false := by
  have none : bit (anyFlushPending s) = 0 := by
    unfold standbyFailures at passes
    omega
  cases pending : (s.cyl c).flushPending with
  | false => rfl
  | true =>
    have any : anyFlushPending s = true := List.any_eq_true.mpr ⟨c, mem_allCylinders c, pending⟩
    rw [any] at none
    cases none

theorem standbyEnd_dropCounts (o : Request) (s : State) (c : DropReason) :
    (standbyEnd o s).notices.dropCounts[reasonCode c] =
      if c = .aborted then min 65535 (s.notices.dropCounts[reasonCode c] + 1) else s.notices.dropCounts[reasonCode c] := by
  have kept : (removeRequest o (reportEnd o.cylinder s.now 2 (outputsOff o.bank o.cylinder s))).notices.dropCounts =
      s.notices.dropCounts := by
    refine (reportEnd_dropCounts o.cylinder s.now 2 _).trans ?_
    rw [outputsOff_eq, State.setDrive_notices]
  rw [standbyEnd, dropRequest, noteDrop_dropCounts]
  simp only [kept]

/-- Settles O48: the conditions judged; else the ends of the pulses, one after the other, and the mode left. -/
theorem enterStandbyEndsPulsesAndLeavesRun : Obligations.EnterStandbyEndsPulsesAndLeavesRun := by
  intro tag s running
  dsimp only
  rw [← standbyFailures_eq]
  refine ⟨fun fails => exec_of_answer (c := .enterStandby) rfl running (ownEnterStandby_refused fails), fun passes => ?_⟩
  have ends := standbyAborts_ends s
  have quiet := ends.quiet
  obtain ⟨control, reply⟩ := leftRun_control s
  have rest := leftRun_rest s
  refine ⟨_, exec_of_owner (c := .enterStandby) rfl running (ownEnterStandby_accepted passes), ?_, ?_, ?_, ?_, ?_, ?_,
    fun follow => ?_⟩
  · exact control
  · rw [reply, rest]
    show ({ (standbyAborts s).link with
      rx := [], rxCount := 0, turnaround := none, lastTag := tag, reply := _ } : FramePort) = _
    rw [quiet.link]
  · rw [rest]
    exact quiet.store
  · rw [rest]
    exact quiet.tracker
  · rw [rest]
    exact quiet.fueling
  · rw [rest]
    exact quiet.pins
  · have still (c : Cylinder) := flushPending_of_standbyFailures passes c
    have perm := occupants_perm follow
    have outputs := (outputsFollow_iff.mp follow).1
    rw [← occupants_eq follow, rest]
    refine ⟨?_, ?_, fun x => ?_, quiet.table, fun c => ?_, ?_, fun q => ?_⟩
    · refine ends.queue.trans ?_
      rw [perm.diff_left]
      exact congrArg (fun l => ({ s.queue with requests := l } : PulseQueue)) (diff_filter _ _)
    · exact ends.noneSelected perm outputs
    · have off := ends.allOff perm outputs x
      cases x <;> exact off
    · refine (ends.cyl c).trans (if_congr ?_ ?_ rfl)
      · rw [any_perm perm, any_beq_iff]
        simp only [driven, List.mem_filter]
        exact exists_congr fun r => ⟨fun h => ⟨h.1.1, h.2, h.1.2⟩, fun h => ⟨⟨h.1, h.2.2⟩, h.2.1⟩⟩
      · rw [endedCyl, still c]
        rfl
    · show (standbyAborts s).notices = _
      rw [standbyAborts_eq]
      exact standbyEnds_notices (.refl s) still _
    · show (standbyAborts s).notices.dropCounts[reasonCode q] = _
      rw [standbyAborts_eq]
      exact foldl_dropCounts standbyEnd_dropCounts _ _ _

end Sys2Proof.Machine

/-! PROOFS. SOFT_RESET (R143, R176, R190). -/

namespace Sys2Proof.Machine

open Sys2Proof.Safety

/-! ### The aborts (R143) -/

theorem softAborts_eq (s : State) : softAborts s = (occupants s).foldl (fun t o => softEnd o t) s := by
  have first : Ends (fun _ => false) (occupant .a s).toList s (abortBySoftReset .a s) := by
    rw [abortBySoftReset_eq]
    exact Ends.foldl Ends.soft _ _
  rw [softAborts, abortBySoftReset_eq .b, occupant_b_of_ends first, abortBySoftReset_eq .a, occupants, List.foldl_append]

theorem softAborts_ends (s : State) : Ends (fun _ => false) (occupants s) s (softAborts s) := by
  rw [softAborts_eq]
  exact Ends.foldl Ends.soft _ _

theorem softEnd_dropCounts (o : Request) (s : State) (c : DropReason) :
    (softEnd o s).notices.dropCounts[reasonCode c] =
      if c = .aborted then min 65535 (s.notices.dropCounts[reasonCode c] + 1) else s.notices.dropCounts[reasonCode c] := by
  rw [softEnd, countDrop_counts]
  have kept : (ended false o s).notices = s.notices := by rw [ended, State.setDrive_notices]
  rw [kept]
  split
  next aborted => rw [aborted]; rfl
  next => rfl

/-- The aborts count their drops and raise nothing. -/
theorem softAborts_notices (s : State) :
    (softAborts s).notices = { s.notices with dropCounts := (softAborts s).notices.dropCounts } := by
  have counted (l : List Request) (u : State) (hu : u.notices = { s.notices with dropCounts := u.notices.dropCounts }) :
      (l.foldl (fun t o => softEnd o t) u).notices =
        { s.notices with dropCounts := (l.foldl (fun t o => softEnd o t) u).notices.dropCounts } := by
    induction l generalizing u with
    | nil => exact hu
    | cons o l ih =>
      refine ih (softEnd o u) ?_
      have kept : (ended false o u).notices = u.notices := by rw [ended, State.setDrive_notices]
      have only : (softEnd o u).notices = { (ended false o u).notices with dropCounts := (softEnd o u).notices.dropCounts } := rfl
      rw [only, kept, hu]
  rw [softAborts_eq]
  exact counted _ s rfl

/-! ### The soft-reset values, with RESET (R176) -/

/-- Every block at its soft-reset value, and RESET raised. -/
def softReset (s : State) : State := raise .reset .absent none 1 (softValues (softAborts s))

theorem softReset_tracker (s : State) : (softReset s).tracker = s.tracker.restarted :=
  congrArg Tracker.restarted (softAborts_ends s).quiet.tracker

theorem softReset_drive (s : State) (x : Bank) :
    (softReset s).drive x = { charge := .ready, locked := false, tree := Tree.lower, waitMark := (s.drive x).waitMark
                              boostOut := false, holdOut := false, pulse := none } := by
  have mark : ((softAborts s).drive x).waitMark = (s.drive x).waitMark := by
    rw [(softAborts_ends s).drive]
    split <;> rfl
  rw [← mark]
  cases x <;> rfl

theorem softReset_shortLevel (s : State) (x : Bank) : (softReset s).shortLevel x = s.shortLevel x :=
  (show (softReset s).shortLevel x = (softAborts s).shortLevel x by cases x <;> rfl).trans
    ((softAborts_ends s).quiet.shortLevel x)

theorem softReset_cyl (s : State) (c : Cylinder) :
    (softReset s).cyl c = { (softAborts s).cyl c with failures := 0, flushPending := false, cyclePlanned := false } :=
  Eight.get_map _ _ _

theorem softReset_shortNotice (s : State) (x : Bank) :
    shortNotice x (softReset s) = if s.shortLevel x then [(.bankShort, .bank x, 0xFFFF)] else [] := by
  simp only [shortNotice, softReset_shortLevel, softReset_drive, Bool.not_false, Bool.and_true]

/-! ### The locks (R126) -/

/-- An unlocked bank raises its BANK_SHORT exactly when SHORT_x is asserted. -/
theorem judgeLock_sameNotes {x : Bank} {short : Bool} {s t : State} (same : SameNotes s t)
    (unlocked : (s.drive x).locked = false) (level : s.shortLevel x = short) :
    SameNotes (judgeLock x s) (if short then raise .bankShort (.bank x) (some x) 0xFFFF t else t) := by
  unfold judgeLock
  rw [unlocked, level]
  cases short with
  | false => exact same
  | true =>
    exact SameNotes.raise (s := s.setDrive x _) ⟨by rw [State.setDrive_notices]; exact same.notices,
      by rw [State.setDrive_tracker]; exact same.tracker, by rw [State.setDrive_now]; exact same.now⟩ _ _ _ _

theorem judgeLock_kindCounts {x : Bank} {s : State} (unlocked : (s.drive x).locked = false) (k : NoticeKind) :
    (judgeLock x s).notices.kindCounts[noticeCode k] = if k = .bankShort ∧ s.shortLevel x then
      min 65535 (s.notices.kindCounts[noticeCode k] + 1) else s.notices.kindCounts[noticeCode k] := by
  unfold judgeLock
  rw [unlocked]
  cases s.shortLevel x with
  | false => simp
  | true =>
    refine (raiseAt_kindCounts _ _ _ _ _ _ k).trans ?_
    rw [State.setDrive_notices]
    simp

/-- Judging bank A leaves bank B and the level of its short as they were. -/
theorem judgeLock_a_other (s : State) :
    (judgeLock .a s).drive .b = s.drive .b ∧ (judgeLock .a s).shortLevel .b = s.shortLevel .b := by
  rw [judgeLock_eq]
  exact ⟨rfl, rfl⟩

theorem softReset_kindCounts (s : State) (k : NoticeKind) :
    (judgeLock .b (judgeLock .a (softReset s))).notices.kindCounts[noticeCode k] =
      if k = .reset then min 65535 (s.notices.kindCounts[noticeCode k] + 1)
      else if k = .bankShort ∧ (s.pins.shortA || s.pins.shortB) then
        min 65535 (s.notices.kindCounts[noticeCode k] + bit s.pins.shortA + bit s.pins.shortB)
      else s.notices.kindCounts[noticeCode k] := by
  have first : (softReset s).notices.kindCounts[noticeCode k] =
      if k = .reset then min 65535 (s.notices.kindCounts[noticeCode k] + 1)
      else s.notices.kindCounts[noticeCode k] := by
    have before : (softValues (softAborts s)).notices.kindCounts = s.notices.kindCounts := by
      show (softAborts s).notices.kindCounts = _
      rw [softAborts_notices]
    refine (raiseAt_kindCounts _ _ _ _ _ _ k).trans ?_
    simp only [before]
  have unlocked (x : Bank) : ((softReset s).drive x).locked = false := congrArg DriveBank.locked (softReset_drive s x)
  rw [judgeLock_kindCounts (by rw [(judgeLock_a_other _).1, unlocked]), (judgeLock_a_other _).2,
    judgeLock_kindCounts (unlocked .a), first, softReset_shortLevel, softReset_shortLevel, State.shortLevel, State.shortLevel]
  by_cases reset : k = .reset
  · simp [reset]
  · by_cases short : k = .bankShort
    · cases s.pins.shortA <;> cases s.pins.shortB <;> simp [short, bit]
      omega
    · simp [reset, short]

theorem softReset_posts (s : State) :
    Posts (softValues (softAborts s)) ((.reset, .absent, 1) ::
      ((if s.pins.shortA then [(.bankShort, .bank .a, 0xFFFF)] else []) ++
        (if s.pins.shortB then [(.bankShort, .bank .b, 0xFFFF)] else []))) (judgeLock .b (judgeLock .a (softReset s))) := by
  have reset : Posts (softValues (softAborts s)) [(.reset, .absent, 1)] (softReset s) :=
    Posts.raise _ _ _ _ (.nil rfl rfl rfl)
  have shorts := judgeLocks_posts (softReset s)
  rw [softReset_shortNotice, softReset_shortNotice] at shorts
  exact reset.trans shorts

/-- RESET and the shorts find the queue empty, and the mask stops none of them. -/
theorem softReset_queue (s : State) :
    (judgeLock .b (judgeLock .a (softReset s))).notices.queue.map (fun n => (n.kind, n.subject, n.detail)) =
      (.reset, .absent, 1) :: ((if s.pins.shortA then [(.bankShort, .bank .a, 0xFFFF)] else []) ++
        (if s.pins.shortB then [(.bankShort, .bank .b, 0xFFFF)] else [])) := by
  have joins := (softReset_posts s).queue (fun n member => ?offered) ?room
  case offered =>
    refine offered_iff.mpr ?_
    rcases List.mem_cons.mp member with reset | short
    · exact .inr (.inl (congrArg Prod.fst reset))
    · left
      have kind : n.1 = .bankShort := by
        rcases List.mem_append.mp short with a | b
        · split at a
          · exact congrArg Prod.fst (List.mem_singleton.mp a)
          · cases a
        · split at b
          · exact congrArg Prod.fst (List.mem_singleton.mp b)
          · cases b
      rw [kind]
      rfl
  case room =>
    show 0 + _ ≤ 32
    split <;> split <;> simp
  rw [joins, List.map_append, List.map_map]
  exact List.map_id _

/-- Settles O52: the aborts as a row of ends, the values of each block, and the notices behind RESET. -/
theorem softResetTakesTheSoftValues : Obligations.SoftResetTakesTheSoftValues := by
  intro tag s running
  have own : ownSoftReset [] s = ⟨judgeLock .b (judgeLock .a (softReset s)), .fresh, []⟩ := rfl
  have ends := softAborts_ends s
  have quiet := ends.quiet
  have locks := judgeLocks_eq (softReset s)
  have kept : (judgeLock .b (judgeLock .a (softReset s))).cyl = (softReset s).cyl := by
    rw [locks]
    rfl
  refine ⟨_, (softAborts s).notices.dropCounts, exec_of_owner (c := .softReset) rfl running own, ?_, ?_, ?_, ?_,
    fun x => ?_, ?_, ?_, ?_, fun c => ?_, fun follow c => ?_, fun follow q => ?_, ?_, fun k => ?_, ?_, ?_, ?_, ?_⟩
  · rw [locks]
    show ({ (softAborts s).link with
      rx := [], rxCount := 0, turnaround := some (later (softAborts s).now 16), lastTag := tag
      reply := _ } : FramePort) = _
    rw [quiet.link, quiet.now]
    rfl
  · rw [locks]
    exact softReset_tracker s
  · rw [locks]
    show ({ (softAborts s).store with pendingSwap := none, age := 0 } : Store) = _
    rw [quiet.store]
  · rw [locks]
    show ({ (softAborts s).queue with requests := [] } : PulseQueue) = _
    rw [ends.queue]
  · rw [locks]
    have drive := shortsLocked_drive (softReset s) x
    rw [softReset_drive, softReset_shortLevel] at drive
    cases x <;> exact drive
  · rw [locks]
    rfl
  · rw [locks]
    show ({ (softAborts s).fueling with
      armed := false, hostCut := false, overspeed := false, clockCut := (softAborts s).control.clock == .fallback
      expired := false, lastSpeed := 0, lastSync := .stopped, lastAge := 0, state := .disarmed } : Fueling) = _
    rw [quiet.fueling, quiet.control, beq_eq_decide]
  · rw [locks]
    show ({ (softAborts s).table with cyls := _ } : CylinderTable) = _
    rw [quiet.table]
    rfl
  · have hosted : ((softAborts s).cyl c).hostMode = (s.cyl c).hostMode ∧ ((softAborts s).cyl c).masked = (s.cyl c).masked := by
      rw [ends.cyl]
      split <;> exact ⟨rfl, rfl⟩
    have cyl : (judgeLock .b (judgeLock .a (softReset s))).cyl c = _ := (congrFun kept c).trans (softReset_cyl s c)
    show ((judgeLock .b (judgeLock .a (softReset s))).cyl c).hostMode = _ ∧ _
    exact ⟨(congrArg CylState.hostMode cyl).trans hosted.1, (congrArg CylState.masked cyl).trans hosted.2,
      congrArg CylState.failures cyl, congrArg CylState.flushPending cyl, congrArg CylState.cyclePlanned cyl⟩
  · have cyl : (judgeLock .b (judgeLock .a (softReset s))).cyl c = _ := (congrFun kept c).trans (softReset_cyl s c)
    refine (congrArg CylState.lastEnd cyl).trans ?_
    show ((softAborts s).cyl c).lastEnd = _
    rw [ends.cyl, any_perm (occupants_perm follow), apply_ite CylState.lastEnd]
    exact if_congr any_beq_iff rfl rfl
  · have perm := occupants_perm follow
    have none : occupants s ≠ [] ↔ driven s ≠ [] := by
      rw [ne_eq, ne_eq, ← List.length_eq_zero_iff, ← List.length_eq_zero_iff, perm.length_eq]
    rw [softAborts_eq, foldl_dropCounts softEnd_dropCounts, perm.length_eq]
    exact if_congr (and_congr_right fun _ => none) rfl rfl
  · refine (judgeLock_sameNotes (judgeLock_sameNotes (x := .a) (SameNotes.raise ?_ _ _ _ _) ?_ ?_) ?_ ?_).notices
    · refine ⟨?_, softReset_tracker s, quiet.now⟩
      show ({ (softAborts s).notices with queue := [], alert := false } : NoticeUnit) = _
      rw [softAborts_notices]
    · exact congrArg DriveBank.locked (softReset_drive s .a)
    · exact softReset_shortLevel s .a
    · exact (congrArg DriveBank.locked ((judgeLock_a_other _).1.trans (softReset_drive s .b)))
    · exact (judgeLock_a_other _).2.trans (softReset_shortLevel s .b)
  · exact softReset_kindCounts s k
  · rw [locks]
    exact quiet.control
  · rw [locks]
    exact quiet.pins
  · refine (softReset_posts s).mask.trans ?_
    show (softAborts s).notices.mask = _
    rw [softAborts_notices]
  · exact softReset_queue s

end Sys2Proof.Machine
